-- ==== Sys2Proof/Word.lean ====
section
/-! DEFINITION. The word types of the machine (00_scope.md R9: bit 0 is the least significant bit, all values are
unsigned). -/

namespace Sys2Proof

/-- A byte, the addressable unit (20_memory.md R41). -/
abbrev Byte := BitVec 8

/-- The content of a 32-bit register, the unit CPUID reads and returns (10_state.md R20). -/
abbrev Word := BitVec 32

/-- The content of a 64-bit containing register (10_state.md R21). -/
abbrev Quadword := BitVec 64

end Sys2Proof
end

