-- ==== Sys2Proof/Syntax.lean ====
section
/-! DEFINITION. The instructions of the spec.

spec/opcode_table.json has ONE instruction, `CPUID`. Its first row is the two-byte encoding; its other 65 rows carry
the same mnemonic, the same match `0FA2` and the same mask, and partition the values of the implicit inputs EAX and
ECX (30_encoding.md R53). They are other rows of the same words, so they are no constructors here: they are
`functionMap` of Machine/FunctionMap.lean, and each has its meaning in the leaf that file's rows name. -/

namespace Sys2Proof

/-- The instructions (40_cpuid_instruction.md R84: "CPUID is the only instruction of this spec"). -/
inductive Instr where
  /-- `CPUID` (R70): no explicit operand, no immediate, no addressing mode (30_encoding.md R51). -/
  | cpuid
  deriving DecidableEq, Repr

end Sys2Proof
end

