-- ==== Sys2Proof/Decode.lean ====
section
/-! DEFINITION. Decoding and encoding (30_encoding.md R50, R58, R60).

`CPUID` is the two bytes `0F A2`, in address order, in every operating mode; only the form without prefix is admitted
(R58, decision D25). The decoder is total on any bytes and says by name why it refuses. -/

namespace Sys2Proof

/-- Why the decoder gives bytes no instruction. -/
inductive DecodeError where
  /-- The first byte is a legacy or REX prefix: R58 refuses every prefixed form. -/
  | prefixedForm (first : Byte)
  /-- The two bytes are not `0F A2`: an instruction that is not of this spec (00_scope.md, "Every other AMD64
      instruction"), or no instruction. -/
  | notCpuid (first second : Byte)
  /-- Fewer bytes than the shortest instruction has. -/
  | truncated
  deriving DecidableEq, Repr

/-- The prefixes of R58: operand size 66h, address size 67h, the segment overrides, LOCK F0h, REP F2h and F3h, and REX
40h to 4Fh. R58 gives the segment overrides no byte values. PRESUMED (the AMD64 family, log entry 10): 26h, 2Eh, 36h,
3Eh, 64h and 65h. Only the name of the refusal depends on them. -/
def isPrefixByte (b : Byte) : Bool :=
  b == 0x66 || b == 0x67 || b == 0x26 || b == 0x2E || b == 0x36 || b == 0x3E || b == 0x64 || b == 0x65 ||
    b == 0xF0 || b == 0xF2 || b == 0xF3 || decide (0x40 ≤ b ∧ b ≤ 0x4F)

/-- The length of the longest instruction, in bytes (R50: 2). -/
def maxInstrBytes : Nat := 2

/-- The instruction at the head of the bytes, and the bytes after it. -/
def decode : List Byte → Except DecodeError (Instr × List Byte)
  | [] => .error .truncated
  | b0 :: rest =>
    if isPrefixByte b0 then .error (.prefixedForm b0)
    else
      match rest with
      | [] => .error .truncated
      | b1 :: tail => if b0 = 0x0F ∧ b1 = 0xA2 then .ok (.cpuid, tail) else .error (.notCpuid b0 b1)

/-- The bytes of an instruction, the first at the lowest address (R50). -/
def encode : Instr → List Byte
  | .cpuid => [0x0F, 0xA2]

/-- The length in bytes (R50: "its length is 2 bytes in every operating mode"). -/
def Instr.length (i : Instr) : Nat := (encode i).length

/-- The bytes of a word of spec/opcode_table.json, in address order. The table numbers CPUID's 16 bits as one number
whose most significant byte is the FIRST byte in memory: its match is `0FA2`, its pattern `00001111 10100010` is "read
in address order" (R50), its "fixed" value is 0FA2h = 4002. Bytes past the table's are 0, up to the longest
instruction. Log entry 11. -/
def tableBytes (nbits w : Nat) : List Byte :=
  let n := nbits / 8
  (List.range n).map (fun k => BitVec.ofNat 8 (w >>> (8 * (n - 1 - k)))) ++ List.replicate (maxInstrBytes - n) 0

/-- The instruction the decoder reads from a word of the opcode table. -/
def decodeTableWord (nbits w : Nat) : Option Instr :=
  match decode (tableBytes nbits w) with
  | .ok (i, _) => some i
  | .error _ => none

end Sys2Proof
end

