-- ==== Sys2Proof/Config.lean ====
section
/-! DEFINITION. The configuration of one logical processor and the free values of the model.

* `Cfg` is the record `cfg` of 00_scope.md R7 and 10_state.md R24: every value CPUID returns that the source does
  not fix, one member for each `(cfg)` or `(cond)` bullet of files 41 to 45, each with the width of its bit range.
  The members that two functions share (R25 (b), (c); R146 with R147; R335) are ONE member each, so the equalities
  the source states hold by construction.
* `Config.rsv`, `Config.cfg`, `Config.upperHalfPolicy` have no body: nothing in Lean can evaluate them.

Naming (00_scope.md R7): the spec's spelling, with `_` before a leading digit and `_` for `-`;
`XFeatureSupportedMask[31:0]` and `[63:32]` are `XFeatureSupportedMaskLo` and `XFeatureSupportedMaskHi` (R152). -/

namespace Sys2Proof

/-! ## Parameters of the execution environment -/

/-- `UpperHalfPolicy` (10_state.md R21, decision D1): what CPUID leaves in bits 63:32 of RAX, RBX, RCX, RDX. -/
inductive UpperHalfPolicy where
  /-- Bits 63:32 of all four become 0. -/
  | zero
  /-- Bits 63:32 become `rsv(32)`, a draw. -/
  | draw
  deriving DecidableEq, Repr, Inhabited

/-- The width W of the instruction pointer in the current mode (10_state.md R22): 16, 32 or 64. -/
inductive IpWidth where
  | w16
  | w32
  | w64
  deriving DecidableEq, Repr, Inhabited

/-! ## The structural parameters that are not plain bit fields -/

/-- `cfg.FnD_Class(sub)` (42_std_fnB_to_fn10.md R150, decision D9): how a subfunction of function Dh is served. -/
inductive SubfunctionClass where
  /-- The source's "unimplemented subfunction": four zeros (R151). -/
  | unimplemented
  /-- Implemented, and described by the source (2, 0Bh, 0Ch, 3Eh). -/
  | implemented
  /-- A state component the source does not describe: four draws. -/
  | undescribed
  deriving DecidableEq, Repr, Inhabited

/-- `cfg.XFeatureEnabledSizeMax`, the uninterpreted function from 64 bits to 32 bits of R153, as plain data: the
values at the listed arguments (the first entry of an argument counts) and the value everywhere else. The domain
being finite, every function of that type is one of these. -/
structure SizeFunction where
  /-- The listed arguments with their values. -/
  entries : List (BitVec 64 × BitVec 32) := []
  /-- The value at every argument that is not listed. -/
  other : BitVec 32 := 0
  deriving DecidableEq, Repr, Inhabited

/-! ## The fields of each return register -/

namespace Record

/-- `Fn0000_0001_EAX`, Family, Model, Stepping Identifiers (rule R104). -/
structure Fn0000_0001_EAX where
  /-- [27:20] (cond) "Processor extended family." Valid when `BaseFamily = Fh`; "If BaseFamily[3:0] is less than Fh,
      then ExtFamily is reserved". -/
  ExtFamily : BitVec 8 := 0
  /-- [19:16] (cond) "Processor extended model." Valid when `BaseFamily = Fh`; "If BaseFamily[3:0] is less than 0Fh,
      then ExtModel is reserved". -/
  ExtModel : BitVec 4 := 0
  /-- [11:8] "Base processor family." -/
  BaseFamily : BitVec 4 := 0
  /-- [7:4] "Base processor model." -/
  BaseModel : BitVec 4 := 0
  /-- [3:0] "Processor stepping. Processor stepping (revision) for a specific model." -/
  Stepping : BitVec 4 := 0
  deriving DecidableEq, Repr, Inhabited

/-- `Fn0000_0001_EBX`, LocalApicId, LogicalProcessorCount, CLFlush (rule R105). -/
structure Fn0000_0001_EBX where
  /-- [31:24] "Initial local APIC physical ID. The 8-bit value assigned to the local APIC physical ID register at
      power-up. Some of the bits of LocalApicId represent the core within a processor and other bits represent the
      processor ID. See the APIC20 “APIC ID” register in the processor BKDG or PPR for details." -/
  LocalApicId : BitVec 8 := 0
  /-- [23:16] (cond) "Logical processor count. If CPUID Fn0000_0001_EDX[HTT] = 1 then LogicalProcessorCount is the
      number of logic processors per package. If CPUID Fn0000_0001_EDX[HTT] = 0 then LogicalProcessorCount is
      reserved. See E.5.1 [Legacy Method]." Valid when `cfg.Fn0000_0001_EDX.HTT = 1`. -/
  LogicalProcessorCount : BitVec 8 := 0
  /-- [15:8] "CLFLUSH size. Specifies the size of a cache line in quadwords flushed by the CLFLUSH instruction." The
      size in bytes is `8 * CLFlush`. -/
  CLFlush : BitVec 8 := 0
  /-- [7:0] "8-bit brand ID. This field, in conjunction with CPUID Fn8000_0001_EBX[BrandId], is used by the system
      firmware to generate the processor name string. See the appropriate processor revision guide for how to program
      the processor name string." -/
  _8BitBrandId : BitVec 8 := 0
  deriving DecidableEq, Repr, Inhabited

/-- `Fn0000_0001_ECX`, Feature Identifiers (rule R106). -/
structure Fn0000_0001_ECX where
  /-- [30] "RDRAND instruction support." -/
  RDRAND : BitVec 1 := 0
  /-- [29] "Half-precision convert instruction support." -/
  F16C : BitVec 1 := 0
  /-- [28] "AVX instruction support." -/
  AVX : BitVec 1 := 0
  /-- [26] "XSAVE (and related) instructions are supported by hardware." -/
  XSAVE : BitVec 1 := 0
  /-- [25] "AES instruction support." -/
  AES : BitVec 1 := 0
  /-- [23] "POPCNT instruction." -/
  POPCNT : BitVec 1 := 0
  /-- [22] "MOVBE: MOVBE instruction support." The source prints the name inside the description column and leaves the
      name column empty (90_conflicts.md C14). -/
  MOVBE : BitVec 1 := 0
  /-- [21] "x2APIC support." -/
  x2APIC : BitVec 1 := 0
  /-- [20] "SSE4.2 instruction support." -/
  SSE42 : BitVec 1 := 0
  /-- [19] "SSE4.1 instruction support." -/
  SSE41 : BitVec 1 := 0
  /-- [13] "CMPXCHG16B instruction support." -/
  CMPXCHG16B : BitVec 1 := 0
  /-- [12] "FMA instruction support." -/
  FMA : BitVec 1 := 0
  /-- [9] "Supplemental SSE3 instruction support." -/
  SSSE3 : BitVec 1 := 0
  /-- [3] "MONITOR/MWAIT instructions." -/
  MONITOR : BitVec 1 := 0
  /-- [1] "PCLMULQDQ instruction support." -/
  PCLMULQDQ : BitVec 1 := 0
  /-- [0] "SSE3 instruction support." -/
  SSE3 : BitVec 1 := 0
  deriving DecidableEq, Repr, Inhabited

/-- `Fn0000_0001_EDX`, Feature Identifiers (rule R109). -/
structure Fn0000_0001_EDX where
  /-- [28] "Hyper-threading technology. Indicates either that there is more than one thread per core or more than one
      core per compute unit. See “Legacy Method”" (46_multiprocessor_calculation.md rule R341). -/
  HTT : BitVec 1 := 0
  /-- [26] "SSE2 instruction support." -/
  SSE2 : BitVec 1 := 0
  /-- [25] "SSE instruction support." -/
  SSE : BitVec 1 := 0
  /-- [24] "FXSAVE and FXRSTOR instructions." -/
  FXSR : BitVec 1 := 0
  /-- [23] "MMX™ instructions." -/
  MMX : BitVec 1 := 0
  /-- [19] "CLFLUSH instruction support." -/
  CLFSH : BitVec 1 := 0
  /-- [17] "Page-size extensions. The PDE[20:13] supplies physical address [39:32]." -/
  PSE36 : BitVec 1 := 0
  /-- [16] "Page attribute table." -/
  PAT : BitVec 1 := 0
  /-- [15] "Conditional move instructions." ("See “CMOV”, “FCMOV”") -/
  CMOV : BitVec 1 := 0
  /-- [14] "Machine check architecture." -/
  MCA : BitVec 1 := 0
  /-- [13] "Page global extension." -/
  PGE : BitVec 1 := 0
  /-- [12] "Memory-type range registers." -/
  MTRR : BitVec 1 := 0
  /-- [11] "SYSENTER and SYSEXIT instructions." -/
  SysEnterSysExit : BitVec 1 := 0
  /-- [8] "CMPXCHG8B instruction." -/
  CMPXCHG8B : BitVec 1 := 0
  /-- [7] "Machine check exception." -/
  MCE : BitVec 1 := 0
  /-- [6] "Physical-address extensions. Indicates support for physical addresses ³ 32b. Number of physical address
      bits above 32b is implementation specific." The glyph before "32b" is a lost relational sign
      (91_not_in_source.md N10). -/
  PAE : BitVec 1 := 0
  /-- [5] "AMD model-specific registers. Indicates support for AMD model-specific registers (MSRs), with RDMSR and
      WRMSR instructions." -/
  MSR : BitVec 1 := 0
  /-- [4] "Time stamp counter. RDTSC and RDTSCP instruction support." -/
  TSC : BitVec 1 := 0
  /-- [3] "Page-size extensions." -/
  PSE : BitVec 1 := 0
  /-- [2] "Debugging extensions." -/
  DE : BitVec 1 := 0
  /-- [1] "Virtual-mode enhancements. CR4.VME, CR4.PVI, software interrupt indirection, expansion of the TSS with the
      software, indirection bitmap, EFLAGS.VIF, EFLAGS.VIP." -/
  VME : BitVec 1 := 0
  /-- [0] "x87 floating point unit on-chip." -/
  FPU : BitVec 1 := 0
  deriving DecidableEq, Repr, Inhabited

/-- `Fn0000_0005_EAX`, Monitor/MWait (rule R112). -/
structure Fn0000_0005_EAX where
  /-- [15:0] "Smallest monitor-line size in bytes." -/
  MonLineSizeMin : BitVec 16 := 0
  deriving DecidableEq, Repr, Inhabited

/-- `Fn0000_0005_EBX`, Monitor/MWait (rule R113). -/
structure Fn0000_0005_EBX where
  /-- [15:0] "Largest monitor-line size in bytes." -/
  MonLineSizeMax : BitVec 16 := 0
  deriving DecidableEq, Repr, Inhabited

/-- `Fn0000_0005_ECX`, Monitor/MWait (rule R114). -/
structure Fn0000_0005_ECX where
  /-- [1] "Interrupt break-event. Indicates MWAIT can use ECX bit 0 to allow interrupts to cause an exit from the
      monitor event pending state, even if EFLAGS.IF=0." (The "ECX bit 0" is an input of MWAIT, not of CPUID.) -/
  IBE : BitVec 1 := 0
  /-- [0] "Enumerate MONITOR/MWAIT extensions: Indicates enumeration MONITOR/MWAIT extensions are supported." -/
  EMX : BitVec 1 := 0
  deriving DecidableEq, Repr, Inhabited

/-- `Fn0000_0006_EAX`, Local APIC Timer Invariance (rule R116). -/
structure Fn0000_0006_EAX where
  /-- [2] "If set, indicates that the timebase for the local APIC timer is not affected by processor p-state." -/
  ARAT : BitVec 1 := 0
  deriving DecidableEq, Repr, Inhabited

/-- `Fn0000_0006_ECX`, Effective Processor Frequency Interface (rule R118). -/
structure Fn0000_0006_ECX where
  /-- [0] "Effective frequency interface support. If set, indicates presence of MSR0000_00E7 (MPERF) and MSR0000_00E8
      (APERF)." -/
  EffFreq : BitVec 1 := 0
  deriving DecidableEq, Repr, Inhabited

/-- `Fn0000_0007_EBX_x0`, Structured Extended Feature Identifiers (ECX=0) (rule R125). -/
structure Fn0000_0007_EBX_x0 where
  /-- [31] "AVX512 instructions are extended to 128 and 256 bits" -/
  AVX512VL : BitVec 1 := 0
  /-- [30] "AVX512 Byte/Word Packed Integer instructions" -/
  AVX512BW : BitVec 1 := 0
  /-- [29] "Secure Hash Algorithm instruction extension." -/
  SHA : BitVec 1 := 0
  /-- [28] "AVX512 Conflict Detection for Vectorizing Loops" -/
  AVX512CD : BitVec 1 := 0
  /-- [24] "CLWB instruction support." -/
  CLWB : BitVec 1 := 0
  /-- [23] "CLFLUSHOPT instruction support." -/
  CLFLUSHOPT : BitVec 1 := 0
  /-- [21] "AVX512 Integer Fused Multiply-Add instructions support." -/
  AVX512_IFMA : BitVec 1 := 0
  /-- [20] "Supervisor mode access prevention." -/
  SMAP : BitVec 1 := 0
  /-- [19] "ADCX, ADOX instruction support." -/
  ADX : BitVec 1 := 0
  /-- [18] "RDSEED instruction support." -/
  RDSEED : BitVec 1 := 0
  /-- [17] "AVX512 Doubleword/Quadword Packed Integer instructions" -/
  AVX512DQ : BitVec 1 := 0
  /-- [16] "AVX512 Foundation" -/
  AVX512F : BitVec 1 := 0
  /-- [15] "Platform QOS Enforcement support." Gates function 10h (42_std_fnB_to_fn10.md rule R175). -/
  PQE : BitVec 1 := 0
  /-- [12] "Platform QOS Monitoring support." Gates function Fh (42_std_fnB_to_fn10.md rule R170). -/
  PQM : BitVec 1 := 0
  /-- [10] "INVPCID instruction support." -/
  INVPCID : BitVec 1 := 0
  /-- [9] "Enhanced REP MOVSB/STOSB support." -/
  ERMS : BitVec 1 := 0
  /-- [8] "Bit manipulation group 2 instruction support." -/
  BMI2 : BitVec 1 := 0
  /-- [7] "Supervisor mode execution prevention." -/
  SMEP : BitVec 1 := 0
  /-- [5] "AVX2 instruction subset support." -/
  AVX2 : BitVec 1 := 0
  /-- [3] "Bit manipulation group 1 instruction support." -/
  BMI1 : BitVec 1 := 0
  /-- [1] "TSC Adjust MSR (3Bh) support." -/
  TSCADJUST : BitVec 1 := 0
  /-- [0] "FS and GS base read/write instruction support." -/
  FSGSBASE : BitVec 1 := 0
  deriving DecidableEq, Repr, Inhabited

/-- `Fn0000_0007_ECX_x0`, Structured Extended Feature Identifiers (ECX=0) (rule R126). -/
structure Fn0000_0007_ECX_x0 where
  /-- [28] "MOVDIR64B instruction support." -/
  MOVDIR64B : BitVec 1 := 0
  /-- [27] "MOVDIRI instruction support." -/
  MOVDIRI : BitVec 1 := 0
  /-- [24] "Bus Lock Trap (#DB) support." -/
  BUSLOCKTRAP : BitVec 1 := 0
  /-- [22] "RDPID instruction and TSC_AUX MSR support." -/
  RDPID : BitVec 1 := 0
  /-- [16] "5-Level paging support." -/
  LA57 : BitVec 1 := 0
  /-- [14] "AVX-512 VPOPCNTD/Q instruction support." -/
  AVX512_VPOPCNTDQ : BitVec 1 := 0
  /-- [12] "AVX512 bit algorithm instructions VPSHUFBITQMB and VPOPCNTB/W support." -/
  AVX512_BITALG : BitVec 1 := 0
  /-- [11] "AVX512 vector neural network instructions support." -/
  AVX512_VNNI : BitVec 1 := 0
  /-- [10] "VPCLMULQDQ 256-bit instruction support." The source prints the field name `VPCMULQDQ`; the description's
      spelling is taken (90_conflicts.md C13). -/
  VPCLMULQDQ : BitVec 1 := 0
  /-- [9] "VAES 256-bit instructions support." -/
  VAES : BitVec 1 := 0
  /-- [8] "Galois Field New instructions support." -/
  GFNI : BitVec 1 := 0
  /-- [7] "Shadow Stacks supported." -/
  CET_SS : BitVec 1 := 0
  /-- [6] "AVX512 vector byte permutation instruction 2 support." -/
  AVX512_VBMI2 : BitVec 1 := 0
  /-- [3] "Memory Protection Keys supported." -/
  PKU : BitVec 1 := 0
  /-- [2] "User mode instruction prevention support." -/
  UMIP : BitVec 1 := 0
  /-- [1] "AVX512 vector byte permutation instructions support." -/
  AVX512_VBMI : BitVec 1 := 0
  deriving DecidableEq, Repr, Inhabited

/-- `Fn0000_0007_EAX_x1`, Structured Extended Feature Identifiers (ECX=1) (rule R129). -/
structure Fn0000_0007_EAX_x1 where
  /-- [5] "AVX512 BFloat16 instructions" -/
  AVX512_BF16 : BitVec 1 := 0
  /-- [4] "AVX Neural Network instructions" -/
  AVX_VNNI : BitVec 1 := 0
  deriving DecidableEq, Repr, Inhabited

/-- `Fn0000_000B_EAX_x0`, Extended Topology Enumeration (ECX=0) (rule R143). -/
structure Fn0000_000B_EAX_x0 where
  /-- [4:0] "Number of bits to shift x2APIC_ID right to get to the topology ID of the next level." -/
  ThreadMaskWidth : BitVec 5 := 0
  deriving DecidableEq, Repr, Inhabited

/-- `Fn0000_000B_EBX_x0`, Extended Topology Enumeration (ECX=0) (rule R144). -/
structure Fn0000_000B_EBX_x0 where
  /-- [15:0] "Number of logical processors in a core." -/
  NumLogProc : BitVec 16 := 0
  deriving DecidableEq, Repr, Inhabited

/-- `Fn0000_000B_EAX_x1`, Extended Topology Enumeration (ECX=1), the four registers `Fn0000_000B_EAX_x1`, `_EBX_x1`,
    `_ECX_x1`, `_EDX_x1` (rule R147). -/
structure Fn0000_000B_EAX_x1 where
  /-- [4:0] "Number of bits to shift x2APIC_ID right to get to the topology ID of the next level." -/
  CoreMaskWidth : BitVec 5 := 0
  deriving DecidableEq, Repr, Inhabited

/-- `Fn0000_000B_EBX_x1`, Extended Topology Enumeration (ECX=1), the four registers `Fn0000_000B_EAX_x1`, `_EBX_x1`,
    `_ECX_x1`, `_EDX_x1` (rule R147). -/
structure Fn0000_000B_EBX_x1 where
  /-- [15:0] "Number of logical cores in socket." -/
  NumLogCores : BitVec 16 := 0
  deriving DecidableEq, Repr, Inhabited

/-- `Fn0000_000D_EAX_x0`, Processor Extended State Enumeration (ECX=0) (rule R152). -/
structure Fn0000_000D_EAX_x0 where
  /-- [31:0] "Reports the valid bit positions for the lower 32 bits of the XFeatureEnabledMask register. If a bit is
      set, the corresponding feature is supported." -/
  XFeatureSupportedMaskLo : BitVec 32 := 0
  deriving DecidableEq, Repr, Inhabited

/-- `Fn0000_000D_ECX_x0`, Processor Extended State Enumeration (ECX=0) (rule R154). -/
structure Fn0000_000D_ECX_x0 where
  /-- [31:0] "Size in bytes of XSAVE/XRSTOR area for all features that the logical processor supports. See
      XFeatureEnabledSizeMax." -/
  XFeatureSupportedSizeMax : BitVec 32 := 0
  deriving DecidableEq, Repr, Inhabited

/-- `Fn0000_000D_EDX_x0`, Processor Extended State Enumeration (ECX=0) (rule R155). -/
structure Fn0000_000D_EDX_x0 where
  /-- [31:0] "Reports the valid bit positions for the upper 32 bits of the XFeatureEnabledMask register. If a bit is
      set, the corresponding feature is supported." -/
  XFeatureSupportedMaskHi : BitVec 32 := 0
  deriving DecidableEq, Repr, Inhabited

/-- `Fn0000_000D_EAX_x1`, Processor Extended State Enumeration (ECX=1) (rule R156). -/
structure Fn0000_000D_EAX_x1 where
  /-- [3] "XSAVES, XRSTOR, and XSS are supported." -/
  XSAVES : BitVec 1 := 0
  /-- [2] "XGETBV with ECX = 1 supported." -/
  XGETBV : BitVec 1 := 0
  /-- [1] "XSAVEC and compact XRSTOR supported." -/
  XSAVEC : BitVec 1 := 0
  /-- [0] "XSAVEOPT is available." -/
  XSAVEOPT : BitVec 1 := 0
  deriving DecidableEq, Repr, Inhabited

/-- `Fn0000_000D_ECX_x1`, Processor Extended State Enumeration (ECX=1) (rule R158). -/
structure Fn0000_000D_ECX_x1 where
  /-- [12] "CET supervisor." -/
  CET_S : BitVec 1 := 0
  /-- [11] "CET user state." -/
  CET_U : BitVec 1 := 0
  deriving DecidableEq, Repr, Inhabited

/-- `Fn0000_000D_EAX_x2`, Processor Extended State Enumeration (ECX=2) (rule R160). -/
structure Fn0000_000D_EAX_x2 where
  /-- [31:0] "YMM state save size. The state save area size in bytes for The YMM registers." -/
  YmmSaveStateSize : BitVec 32 := 0
  deriving DecidableEq, Repr, Inhabited

/-- `Fn0000_000D_EBX_x2`, Processor Extended State Enumeration (ECX=2) (rule R161). -/
structure Fn0000_000D_EBX_x2 where
  /-- [31:0] "YMM state save offset. The offset in bytes from the base of the extended state save area of the YMM
      register state save area." -/
  YmmSaveStateOffset : BitVec 32 := 0
  deriving DecidableEq, Repr, Inhabited

/-- `Fn0000_000D_EAX_x0B`, Processor Extended State Enumeration, CET user state, the four registers (rule R163). -/
structure Fn0000_000D_EAX_x0B where
  /-- [31:0] "CET user state save size in bytes." -/
  CetUserSize : BitVec 32 := 0
  deriving DecidableEq, Repr, Inhabited

/-- `Fn0000_000D_EBX_x0B`, Processor Extended State Enumeration, CET user state, the four registers (rule R163). -/
structure Fn0000_000D_EBX_x0B where
  /-- [31:0] "CET user state offset from the base of the extended state save area." -/
  CetUserOffset : BitVec 32 := 0
  deriving DecidableEq, Repr, Inhabited

/-- `Fn0000_000D_EAX_x0C`, Processor Extended State Enumeration, CET supervisor state, the four registers (rule R164). -/
structure Fn0000_000D_EAX_x0C where
  /-- [31:0] "CET supervisor state save size in bytes." -/
  CetSupervisorSize : BitVec 32 := 0
  deriving DecidableEq, Repr, Inhabited

/-- `Fn0000_000D_EBX_x0C`, Processor Extended State Enumeration, CET supervisor state, the four registers (rule R164). -/
structure Fn0000_000D_EBX_x0C where
  /-- [31:0] "CET supervisor state offset from the base of the extended state save area." -/
  CetSupervisorOffset : BitVec 32 := 0
  deriving DecidableEq, Repr, Inhabited

/-- `Fn0000_000D_EAX_x3E`, Processor Extended State Enumeration (ECX=62) (rule R165). -/
structure Fn0000_000D_EAX_x3E where
  /-- [31:0] "LWP state save area size. The size of the save area for LWP state in bytes." -/
  LwpSaveStateSize : BitVec 32 := 0
  deriving DecidableEq, Repr, Inhabited

/-- `Fn0000_000D_EBX_x3E`, Processor Extended State Enumeration (ECX=62) (rule R166). -/
structure Fn0000_000D_EBX_x3E where
  /-- [31:0] "LWP state save byte offset. The offset in bytes from the base of the extended state save area of the
      state save area for LWP." -/
  LwpSaveStateOffset : BitVec 32 := 0
  deriving DecidableEq, Repr, Inhabited

/-- `Fn0000_000F_EBX_x0`, PQM Capabilities, the four registers (rule R171). -/
structure Fn0000_000F_EBX_x0 where
  /-- [31:0] "Largest RMID supported by the system for any resource." -/
  Max_RMID : BitVec 32 := 0
  deriving DecidableEq, Repr, Inhabited

/-- `Fn0000_000F_EDX_x0`, PQM Capabilities, the four registers (rule R171). -/
structure Fn0000_000F_EDX_x0 where
  /-- [1] "L3 Cache Monitoring Support." -/
  L3CacheMon : BitVec 1 := 0
  deriving DecidableEq, Repr, Inhabited

/-- `Fn0000_000F_EAX_x1`, L3 Cache Monitoring Capabilities, the four registers (rule R172). -/
structure Fn0000_000F_EAX_x1 where
  /-- [8] "Indicates that MSR QM_CTR bit 61 is a counter overflow bit." -/
  OverflowBit : BitVec 1 := 0
  /-- [7:0] "QM_CTR counter width, offset from 24 bits. If 0, the family, model, and stepping should be used to
      determine the counter size." -/
  CounterSize : BitVec 8 := 0
  deriving DecidableEq, Repr, Inhabited

/-- `Fn0000_000F_EBX_x1`, L3 Cache Monitoring Capabilities, the four registers (rule R172). -/
structure Fn0000_000F_EBX_x1 where
  /-- [31:0] "Scale factor for the value obtained from QOS_CTR." -/
  ScaleFactor : BitVec 32 := 0
  deriving DecidableEq, Repr, Inhabited

/-- `Fn0000_000F_ECX_x1`, L3 Cache Monitoring Capabilities, the four registers (rule R172). -/
structure Fn0000_000F_ECX_x1 where
  /-- [31:0] "Largest RMID supported by the L3CachMon resource." -/
  Max_RMID : BitVec 32 := 0
  deriving DecidableEq, Repr, Inhabited

/-- `Fn0000_000F_EDX_x1`, L3 Cache Monitoring Capabilities, the four registers (rule R172). -/
structure Fn0000_000F_EDX_x1 where
  /-- [2] "L3 Cache Bandwidth Monitoring Event 1." -/
  L3CacheBWMonEvt1 : BitVec 1 := 0
  /-- [1] "L3 Cache Bandwidth Monitoring Event 0." -/
  L3CacheBWMonEvt0 : BitVec 1 := 0
  /-- [0] "L3 Cache Occupancy Monitoring Event." -/
  L3CacheOccMon : BitVec 1 := 0
  deriving DecidableEq, Repr, Inhabited

/-- `Fn0000_0010_EDX_x0`, PQE Capabilities, the four registers (rule R176). -/
structure Fn0000_0010_EDX_x0 where
  /-- [1] "L3 Cache Allocation Enforcement Support." -/
  L3Alloc : BitVec 1 := 0
  deriving DecidableEq, Repr, Inhabited

/-- `Fn0000_0010_EAX_x1`, L3 Cache Allocation Enforcement Capabilities, the four registers (rule R177). -/
structure Fn0000_0010_EAX_x1 where
  /-- [4:0] "L3 cache capacity bit mask length minus 1." -/
  CBM_LEN : BitVec 5 := 0
  deriving DecidableEq, Repr, Inhabited

/-- `Fn0000_0010_EBX_x1`, L3 Cache Allocation Enforcement Capabilities, the four registers (rule R177). -/
structure Fn0000_0010_EBX_x1 where
  /-- [31:0] "L3 cache allocation sharing mask." -/
  L3ShareAllocMask : BitVec 32 := 0
  deriving DecidableEq, Repr, Inhabited

/-- `Fn0000_0010_ECX_x1`, L3 Cache Allocation Enforcement Capabilities, the four registers (rule R177). -/
structure Fn0000_0010_ECX_x1 where
  /-- [2] "Code-Data Prioritization support." -/
  CDP : BitVec 1 := 0
  deriving DecidableEq, Repr, Inhabited

/-- `Fn0000_0010_EDX_x1`, L3 Cache Allocation Enforcement Capabilities, the four registers (rule R177). -/
structure Fn0000_0010_EDX_x1 where
  /-- [15:0] "Maximum COS supported by L3 cache allocation enforcement." -/
  COS_MAX : BitVec 16 := 0
  deriving DecidableEq, Repr, Inhabited

/-- `Fn8000_0001_EBX`, BrandId Identifier (rule R204). -/
structure Fn8000_0001_EBX where
  /-- [31:28] (cond) "Package type. If (Family[7:0] >= 10h), this field is valid. If (Family[7:0] < 10h), this field
      is reserved." Valid when `Family >= 10h`, `Family` computed by 41_std_fn0_to_fn7.md rule R104 from `cfg`. -/
  PkgType : BitVec 4 := 0
  /-- [15:0] "Brand ID. This field, in conjunction with CPUID Fn0000_0001_EBX[8BitBrandId], is used by system firmware
      to generate the processor name string. See your processor revision guide for how to program the processor name
      string." -/
  BrandId : BitVec 16 := 0
  deriving DecidableEq, Repr, Inhabited

/-- `Fn8000_0001_ECX`, Feature Identifiers (rule R205). -/
structure Fn8000_0001_ECX where
  /-- [30] "Breakpoint Addressing masking extended to bit 31." -/
  AddrMaskExt : BitVec 1 := 0
  /-- [29] "Support for MWAITX and MONITORX instructions." -/
  MONITORX : BitVec 1 := 0
  /-- [28] "Support for L3 performance counter extension." -/
  PerfCtrExtLLC : BitVec 1 := 0
  /-- [27] "Performance time-stamp counter. Indicates support for MSRC001_0280 [Performance Time Stamp Counter]." -/
  PerfTsc : BitVec 1 := 0
  /-- [26] "Data access breakpoint extension. Indicates support for MSRC001_1027 and MSRC001_101[B:9]." -/
  DataBkptExt : BitVec 1 := 0
  /-- [24] "NB performance counter extensions support. Indicates support for MSRC001_024[6,4,2,0] and
      MSRC001_024[7,5,3,1]." -/
  PerfCtrExtNB : BitVec 1 := 0
  /-- [23] "Processor performance counter extensions support. Indicates support for MSRC001_020[A,8,6,4,2,0] and
      MSRC001_020[B,9,7,5,3,1]." -/
  PerfCtrExtCore : BitVec 1 := 0
  /-- [22] "Topology extensions support. Indicates support for CPUID Fn8000_001D_EAX_x[N:0]-CPUID Fn8000_001E_EDX."
      Gates functions 8000_001Dh and 8000_001Eh (40_cpuid_instruction.md rule R78). -/
  TopologyExtensions : BitVec 1 := 0
  /-- [21] "Trailing bit manipulation instruction support." -/
  TBM : BitVec 1 := 0
  /-- [17] "Translation Cache Extension support." -/
  TCE : BitVec 1 := 0
  /-- [16] "Four-operand FMA instruction support." -/
  FMA4 : BitVec 1 := 0
  /-- [15] "Lightweight profiling support." Gates function 8000_001Ch. -/
  LWP : BitVec 1 := 0
  /-- [13] "Watchdog timer support. Indicates support for MSRC001_0074." -/
  WDT : BitVec 1 := 0
  /-- [12] "SKINIT and STGI are supported. Indicates support for SKINIT and STGI, independent of the value of
      MSRC000_0080[SVME]." -/
  SKINIT : BitVec 1 := 0
  /-- [11] "Extended operation support." -/
  XOP : BitVec 1 := 0
  /-- [10] "Instruction based sampling." Gates function 8000_001Bh. -/
  IBS : BitVec 1 := 0
  /-- [9] "OS visible workaround. Indicates OS-visible workaround support." -/
  OSVW : BitVec 1 := 0
  /-- [8] "PREFETCH and PREFETCHW instruction support." -/
  _3DNowPrefetch : BitVec 1 := 0
  /-- [7] "Misaligned SSE mode." -/
  MisAlignSse : BitVec 1 := 0
  /-- [6] "EXTRQ, INSERTQ, MOVNTSS, and MOVNTSD instruction support." -/
  SSE4A : BitVec 1 := 0
  /-- [5] "Advanced bit manipulation. LZCNT instruction support." -/
  ABM : BitVec 1 := 0
  /-- [4] "LOCK MOV CR0 means MOV CR8." -/
  AltMovCr8 : BitVec 1 := 0
  /-- [3] "Extended APIC space. This bit indicates the presence of extended APIC register space starting at offset
      400h from the “APIC Base Address Register,” as specified in the BKDG." -/
  ExtApicSpace : BitVec 1 := 0
  /-- [2] "Secure virtual machine." Gates function 8000_000Ah. -/
  SVM : BitVec 1 := 0
  /-- [1] "Core multi-processing legacy mode. See “Legacy Method”" (46_multiprocessor_calculation.md rule R341). -/
  CmpLegacy : BitVec 1 := 0
  /-- [0] "LAHF and SAHF instruction support in 64-bit mode." -/
  LahfSahf : BitVec 1 := 0
  deriving DecidableEq, Repr, Inhabited

/-- `Fn8000_0001_EDX`, Feature Identifiers (rule R206). -/
structure Fn8000_0001_EDX where
  /-- [31] "3DNow!™ instructions." -/
  _3DNow : BitVec 1 := 0
  /-- [30] "AMD extensions to 3DNow! instructions." -/
  _3DNowExt : BitVec 1 := 0
  /-- [29] "Long mode." -/
  LM : BitVec 1 := 0
  /-- [27] "RDTSCP instruction." -/
  RDTSCP : BitVec 1 := 0
  /-- [26] "1-GB large page support." -/
  Page1GB : BitVec 1 := 0
  /-- [25] "FXSAVE and FXRSTOR instruction optimizations." The source prints the field name `FXSR` for this bit and
      for bit 24; the name `FFXSR` is the spec's, to tell them apart (90_conflicts.md C8). -/
  FFXSR : BitVec 1 := 0
  /-- [22] "AMD extensions to MMX instructions." -/
  MmxExt : BitVec 1 := 0
  /-- [20] "No-execute page protection." -/
  NX : BitVec 1 := 0
  /-- [11] "SYSCALL and SYSRET instructions." Not the same as bit 11 of function 1, which is `SysEnterSysExit`. -/
  SysCallSysRet : BitVec 1 := 0
  deriving DecidableEq, Repr, Inhabited

/-- `Fn8000_0005_EAX`, L1 TLB 2M/4M Information (rule R216). -/
structure Fn8000_0005_EAX where
  /-- [31:24] "Data TLB associativity for 2-MB and 4-MB pages. Encoding is per Table E-3". -/
  L1DTlb2and4MAssoc : BitVec 8 := 0
  /-- [23:16] "Data TLB number of entries for 2-MB and 4-MB pages. The value returned is for the number of entries
      available for the 2-MB page size; 4-MB pages require two 2-MB entries, so the number of entries available for
      the 4-MB page size is one-half the returned value." -/
  L1DTlb2and4MSize : BitVec 8 := 0
  /-- [15:8] "Instruction TLB associativity for 2-MB and 4-MB pages. Encoding is per Table E-3". -/
  L1ITlb2and4MAssoc : BitVec 8 := 0
  /-- [7:0] "Instruction TLB number of entries for 2-MB and 4-MB pages. The value returned is for the number of
      entries available for the 2-MB page size; 4-MB pages require two 2-MB entries, so the number of entries
      available for the 4-MB page size is one-half the returned value." -/
  L1ITlb2and4MSize : BitVec 8 := 0
  deriving DecidableEq, Repr, Inhabited

/-- `Fn8000_0005_EBX`, L1 TLB 4K Information (rule R217). -/
structure Fn8000_0005_EBX where
  /-- [31:24] "Data TLB associativity for 4 KB pages. Encoding is per Table E-3". -/
  L1DTlb4KAssoc : BitVec 8 := 0
  /-- [23:16] "Data TLB number of entries for 4 KB pages." -/
  L1DTlb4KSize : BitVec 8 := 0
  /-- [15:8] "Instruction TLB associativity for 4 KB pages. Encoding is per Table E-3". -/
  L1ITlb4KAssoc : BitVec 8 := 0
  /-- [7:0] "Instruction TLB number of entries for 4 KB pages." -/
  L1ITlb4KSize : BitVec 8 := 0
  deriving DecidableEq, Repr, Inhabited

/-- `Fn8000_0005_ECX`, L1 Data Cache Information (rule R218). -/
structure Fn8000_0005_ECX where
  /-- [31:24] "L1 data cache size in KB." -/
  L1DcSize : BitVec 8 := 0
  /-- [23:16] "L1 data cache associativity. Encoding is per Table E-3." -/
  L1DcAssoc : BitVec 8 := 0
  /-- [15:8] "L1 data cache lines per tag." -/
  L1DcLinesPerTag : BitVec 8 := 0
  /-- [7:0] "L1 data cache line size in bytes." -/
  L1DcLineSize : BitVec 8 := 0
  deriving DecidableEq, Repr, Inhabited

/-- `Fn8000_0005_EDX`, L1 Instruction Cache Information (rule R219). -/
structure Fn8000_0005_EDX where
  /-- [31:24] "L1 instruction cache size KB." -/
  L1IcSize : BitVec 8 := 0
  /-- [23:16] "L1 instruction cache associativity. Encoding is per Table E-3." -/
  L1IcAssoc : BitVec 8 := 0
  /-- [15:8] "L1 instruction cache lines per tag." -/
  L1IcLinesPerTag : BitVec 8 := 0
  /-- [7:0] "L1 instruction cache line size in bytes." -/
  L1IcLineSize : BitVec 8 := 0
  deriving DecidableEq, Repr, Inhabited

/-- `Fn8000_0006_EAX`, L2 TLB 2M/4M Information (rule R223). -/
structure Fn8000_0006_EAX where
  /-- [31:28] "L2 data TLB associativity for 2-MB and 4-MB pages. Encoding is per Table E-4". -/
  L2DTlb2and4MAssoc : BitVec 4 := 0
  /-- [27:16] "L2 data TLB number of entries for 2-MB and 4-MB pages. The value returned is for the number of entries
      available for the 2 MB page size; 4 MB pages require two 2 MB entries, so the number of entries available for
      the 4 MB page size is one-half the returned value." -/
  L2DTlb2and4MSize : BitVec 12 := 0
  /-- [15:12] "L2 instruction TLB associativity for 2-MB and 4-MB pages. Encoding is per Table E-4". -/
  L2ITlb2and4MAssoc : BitVec 4 := 0
  /-- [11:0] "L2 instruction TLB number of entries for 2-MB and 4-MB pages. The value returned is for the number of
      entries available for the 2 MB page size; 4 MB pages require two 2 MB entries, so the number of entries
      available for the 4 MB page size is one-half the returned value." -/
  L2ITlb2and4MSize : BitVec 12 := 0
  deriving DecidableEq, Repr, Inhabited

/-- `Fn8000_0006_EBX`, L2 TLB 4K Information (rule R224). -/
structure Fn8000_0006_EBX where
  /-- [31:28] "L2 data TLB associativity for 4-KB pages. Encoding is per Table E-4". -/
  L2DTlb4KAssoc : BitVec 4 := 0
  /-- [27:16] "L2 data TLB number of entries for 4-KB pages." -/
  L2DTlb4KSize : BitVec 12 := 0
  /-- [15:12] "L2 instruction TLB associativity for 4-KB pages. Encoding is per Table E-4". -/
  L2ITlb4KAssoc : BitVec 4 := 0
  /-- [11:0] "L2 instruction TLB number of entries for 4-KB pages." -/
  L2ITlb4KSize : BitVec 12 := 0
  deriving DecidableEq, Repr, Inhabited

/-- `Fn8000_0006_ECX`, L2 Cache Information (rule R225). -/
structure Fn8000_0006_ECX where
  /-- [31:16] "L2 cache size in KB." -/
  L2Size : BitVec 16 := 0
  /-- [15:12] "L2 cache associativity. Encoding is per Table E-4". -/
  L2Assoc : BitVec 4 := 0
  /-- [11:8] "L2 cache lines per tag." -/
  L2LinesPerTag : BitVec 4 := 0
  /-- [7:0] "L2 cache line size in bytes." -/
  L2LineSize : BitVec 8 := 0
  deriving DecidableEq, Repr, Inhabited

/-- `Fn8000_0006_EDX`, L3 Cache Information (rule R226). -/
structure Fn8000_0006_EDX where
  /-- [31:18] "Specifies the L3 cache size range: (L3Size[31:18] * 512KB) <= L3 cache size < ((L3Size[31:18]+1) *
      512KB)." -/
  L3Size : BitVec 14 := 0
  /-- [15:12] "L3 cache associativity. Encoded per Table E-4". -/
  L3Assoc : BitVec 4 := 0
  /-- [11:8] "L3 cache lines per tag." -/
  L3LinesPerTag : BitVec 4 := 0
  /-- [7:0] "L3 cache line size in bytes." -/
  L3LineSize : BitVec 8 := 0
  deriving DecidableEq, Repr, Inhabited

/-- `Fn8000_0007_EBX`, RAS Capabilities (rule R231). -/
structure Fn8000_0007_EBX where
  /-- [3] "0=MCAX is not supported. 1=MCAX is supported; the MCAX MSR addresses are supported; MCA Extension (MCAX)
      support. Indicates support for MCAX MSRs. MCA_CONFIG[Mcax] is present in all MCA banks." -/
  ScalableMca : BitVec 1 := 0
  /-- [2] "Hardware assert support. Indicates support for MSRC001_10[DF:C0]." -/
  HWA : BitVec 1 := 0
  /-- [1] "Software uncorrectable error containment and recovery capability. The processor supports software
      containment of uncorrectable errors through context synchronizing data poisoning and deferred error interrupts". -/
  SUCCOR : BitVec 1 := 0
  /-- [0] "MCA overflow recovery support. If set, indicates that MCA overflow conditions (MCi_STATUS[Overflow]=1) are
      not fatal; software may safely ignore such conditions. If clear, MCA overflow conditions require software to
      shut down the system." -/
  McaOverflowRecov : BitVec 1 := 0
  deriving DecidableEq, Repr, Inhabited

/-- `Fn8000_0007_ECX`, Processor Power Monitoring Interface (rule R232). -/
structure Fn8000_0007_ECX where
  /-- [31:0] "Specifies the ratio of the compute unit power accumulator sample period to the TSC counter period.
      Returns a value of 0 if not applicable for the system." -/
  CpuPwrSampleTimeRatio : BitVec 32 := 0
  deriving DecidableEq, Repr, Inhabited

/-- `Fn8000_0007_EDX`, Advanced Power Management Features (rule R233). -/
structure Fn8000_0007_EDX where
  /-- [12] "Processor power reporting interface supported." -/
  ProcPowerReporting : BitVec 1 := 0
  /-- [11] "Processor feedback interface. Value: 1. 1=Indicates support for processor feedback interface. Note: This
      feature is deprecated." -/
  ProcFeedbackInterface : BitVec 1 := 0
  /-- [10] "Read-only effective frequency interface. 1=Indicates presence of MSRC000_00E7 [Read-Only Max Performance
      Frequency Clock Count (MPerfReadOnly)] and MSRC000_00E8 [Read-Only Actual Performance Frequency Clock Count
      (APerfReadOnly)]." -/
  EffFreqRO : BitVec 1 := 0
  /-- [9] "Core performance boost." -/
  CPB : BitVec 1 := 0
  /-- [8] "TSC invariant. The TSC rate is ensured to be invariant across all P-States, C-States, and stop grant
      transitions (such as STPCLK Throttling); therefore the TSC is suitable for use as a source of time. 0 = No such
      guarantee is made and software should avoid attempting to use the TSC as a source of time." -/
  TscInvariant : BitVec 1 := 0
  /-- [7] "Hardware P-state control. MSRC001_0061 [P-state Current Limit], MSRC001_0062 [P-state Control] and
      MSRC001_0063 [P-state Status] exist." -/
  HwPstate : BitVec 1 := 0
  /-- [6] "100 MHz multiplier Control." -/
  _100MHzSteps : BitVec 1 := 0
  /-- [4] "Hardware thermal control (HTC)." -/
  TM : BitVec 1 := 0
  /-- [3] "THERMTRIP." -/
  TTP : BitVec 1 := 0
  /-- [2] "Voltage ID control. Function replaced by HwPstate." -/
  VID : BitVec 1 := 0
  /-- [1] "Frequency ID control. Function replaced by HwPstate." -/
  FID : BitVec 1 := 0
  /-- [0] "Temperature sensor." -/
  TS : BitVec 1 := 0
  deriving DecidableEq, Repr, Inhabited

/-- `Fn8000_0008_EAX`, Long Mode Size Identifiers (rule R236). -/
structure Fn8000_0008_EAX where
  /-- [23:16] "Maximum guest physical address size in bits. This number applies only to guests using nested paging.
      When this field is zero, refer to the PhysAddrSize field for the maximum guest physical address size." -/
  GuestPhysAddrSize : BitVec 8 := 0
  /-- [15:8] "Maximum linear address size in bits." -/
  LinAddrSize : BitVec 8 := 0
  /-- [7:0] "Maximum physical address size in bits. When GuestPhysAddrSize is zero, this field also indicates the
      maximum guest physical address size." -/
  PhysAddrSize : BitVec 8 := 0
  deriving DecidableEq, Repr, Inhabited

/-- `Fn8000_0008_EBX`, Extended Feature Identifiers (rule R237). -/
structure Fn8000_0008_EBX where
  /-- [30] "IBPB clears return address predictor." -/
  IBPB_RET : BitVec 1 := 0
  /-- [29] "The processor is not affected by branch type confusion." -/
  BTC_NO : BitVec 1 := 0
  /-- [28] "Predictive Store Forward Disable." -/
  PSFD : BitVec 1 := 0
  /-- [27] "Collaborative Processor Performance Control." -/
  CPPC : BitVec 1 := 0
  /-- [26] "SSBD not needed on this processor." -/
  SsbdNotRequired : BitVec 1 := 0
  /-- [25] "Use VIRT_SPEC_CTL MSR (C001_011Fh) for SSBD." -/
  SsbdVirtSpecCtrl : BitVec 1 := 0
  /-- [24] "Speculative Store Bypass Disable." -/
  SSBD : BitVec 1 := 0
  /-- [21] "INVLPGB support for invalidating guest nested translations." -/
  INVLPGBnestedPages : BitVec 1 := 0
  /-- [20] "EFER.LMSLE is unsupported." -/
  EferLmsleUnsupported : BitVec 1 := 0
  /-- [19] "IBRS provides same mode speculation limits." Printed `IbbsSameMode` (90_conflicts.md C13). -/
  IbrsSameMode : BitVec 1 := 0
  /-- [18] "IBRS is preferred to software solution." Printed `IbbsPreferred` (90_conflicts.md C13). -/
  IbrsPreferred : BitVec 1 := 0
  /-- [17] "Setting STIBP to 1 once is recommended." -/
  StibpAlwaysOn : BitVec 1 := 0
  /-- [16] "Setting IBRS to 1 once is recommended." Printed `IbbsAlwaysOn` (90_conflicts.md C13). -/
  IbrsAlwaysOn : BitVec 1 := 0
  /-- [15] "Single Thread Indirect Branch Prediction mode." -/
  STIBP : BitVec 1 := 0
  /-- [14] "Indirect Branch Restricted Speculation." -/
  IBRS : BitVec 1 := 0
  /-- [13] "WBINVD/WBNOINVD instructions are interruptible." -/
  INT_WBINVD : BitVec 1 := 0
  /-- [12] "Indirect Branch Prediction Barrier." -/
  IBPB : BitVec 1 := 0
  /-- [9] "WBNOINVD instruction supported." -/
  WBNOINVD : BitVec 1 := 0
  /-- [8] "MCOMMIT instruction supported." -/
  MCOMMIT : BitVec 1 := 0
  /-- [6] "Bandwidth Enforcement Extension." -/
  BE : BitVec 1 := 0
  /-- [4] "RDPRU instruction supported." -/
  RDPRU : BitVec 1 := 0
  /-- [3] "INVLPGB and TLBSYNC instruction supported." -/
  INVLPGB : BitVec 1 := 0
  /-- [2] "FP Error Pointers Restored by XRSTOR." -/
  RstrFpErrPtrs : BitVec 1 := 0
  /-- [1] "Instruction Retired Counter MSR available." -/
  InstRetCntMsr : BitVec 1 := 0
  /-- [0] "CLZERO instruction supported." -/
  CLZERO : BitVec 1 := 0
  deriving DecidableEq, Repr, Inhabited

/-- `Fn8000_0008_ECX`, Size Identifiers (rule R238). -/
structure Fn8000_0008_ECX where
  /-- [17:16] "Performance time-stamp counter size. Indicates the size of MSRC001_0280[PTSC]." Encoding: 00b = 40
      bits, 01b = 48 bits, 10b = 56 bits, 11b = 64 bits. -/
  PerfTscSize : BitVec 2 := 0
  /-- [15:12] "APIC ID size. The number of bits in the initial APIC20[ApicId] value that indicate logical processor ID
      within a package. The size of this field determines the maximum number of logical processors (MNLP) that the
      package could theoretically support, and not the actual number of logical processors that are implemented or
      enabled in the package, as indicated by CPUID Fn8000_0008_ECX[NC]. A value of zero indicates that legacy methods
      must be used to determine the maximum number of logical processors, as indicated by CPUID Fn8000_0008_ECX[NC]." -/
  ApicIdSize : BitVec 4 := 0
  /-- [7:0] "Number of physical threads - 1. The number of threads in the processor is NC+1 (e.g., if NC = 0, then
      there is one thread). See “Legacy Method”". -/
  NC : BitVec 8 := 0
  deriving DecidableEq, Repr, Inhabited

/-- `Fn8000_0008_EDX`, RDPRU Register Identifier Range (rule R239). -/
structure Fn8000_0008_EDX where
  /-- [31:16] "The maximum ECX value recognized by RDPRU." -/
  MaxRdpruID : BitVec 16 := 0
  /-- [15:0] "Maximum page count for INVLPGB instruction." -/
  InvlpgbCountMax : BitVec 16 := 0
  deriving DecidableEq, Repr, Inhabited

/-- `Fn8000_000A_EAX`, SVM Revision and Feature Identification (rule R252). -/
structure Fn8000_000A_EAX where
  /-- [7:0] "SVM revision number." -/
  SvmRev : BitVec 8 := 0
  deriving DecidableEq, Repr, Inhabited

/-- `Fn8000_000A_EBX`, SVM Revision and Feature Identification (rule R253). -/
structure Fn8000_000A_EBX where
  /-- [31:0] "Number of available address space identifiers (ASID)." -/
  NASID : BitVec 32 := 0
  deriving DecidableEq, Repr, Inhabited

/-- `Fn8000_000A_ECX`, SVM Feature Identification (rule R254). -/
structure Fn8000_000A_ECX where
  /-- [6] "4096 vCPUs supported in x2AVIC mode." -/
  x2AVIC_EXT : BitVec 1 := 0
  deriving DecidableEq, Repr, Inhabited

/-- `Fn8000_000A_EDX`, SVM Feature Identification (rule R255). -/
structure Fn8000_000A_EDX where
  /-- [30] "Idle HLT intercept." -/
  IdleHltIntercept : BitVec 1 := 0
  /-- [29] "Bus Lock Threshold." -/
  BusLockThreshold : BitVec 1 := 0
  /-- [28] "Guest VMCB address check." -/
  NestedVirtVmcbAddrChk : BitVec 1 := 0
  /-- [27] "Extended Interrupt Local Vector Table Register AVIC Access changes." -/
  ExtLvtAvicAccessChg : BitVec 1 := 0
  /-- [26] "IBS Virtualization." -/
  IbsVirt : BitVec 1 := 0
  /-- [25] "NMI Virtualization." -/
  VNMI : BitVec 1 := 0
  /-- [24] "INVLPG/TLBSYNC hypervisor enable in VMCB and TLBSYNC intercept support." -/
  TlbiCtl : BitVec 1 := 0
  /-- [23] "When host CR4.MCE=1 and guest CR4.MCE=0, machine check exceptions (#MC) in a guest do not cause shutdown
      and are always intercepted." -/
  HOST_MCE_OVERRIDE : BitVec 1 := 0
  /-- [21] "Read-Only Guest Page Table feature support." -/
  ROGPT : BitVec 1 := 0
  /-- [20] "SPEC_CTRL virtualization." -/
  SpecCtrl : BitVec 1 := 0
  /-- [19] "SVM supervisor shadow stack restrictions." -/
  SSSCheck : BitVec 1 := 0
  /-- [18] "Support for the AMD advanced virtual interrupt controller for x2APIC mode." -/
  x2AVIC : BitVec 1 := 0
  /-- [17] "Guest Mode Execution Trap." -/
  GMET : BitVec 1 := 0
  /-- [16] "Virtualize the Global Interrupt Flag." -/
  VGIF : BitVec 1 := 0
  /-- [15] "VMSAVE and VMLOAD virtualization." -/
  VMSAVEvirt : BitVec 1 := 0
  /-- [13] "Support for the AMD advanced virtual interrupt controller." -/
  AVIC : BitVec 1 := 0
  /-- [12] "PAUSE filter threshold. Indicates support for the PAUSE filter cycle count threshold." -/
  PauseFilterThreshold : BitVec 1 := 0
  /-- [10] "Pause intercept filter. Indicates support for the pause intercept filter." -/
  PauseFilter : BitVec 1 := 0
  /-- [8] "PMC virtualization." -/
  PmcVirt : BitVec 1 := 0
  /-- [7] "Decode assists. Indicates support for the decode assists." -/
  DecodeAssists : BitVec 1 := 0
  /-- [6] "Flush by ASID. Indicates that TLB flush events, including CR3 writes and CR4.PGE toggles, flush only the
      current ASID's TLB entries. Also indicates support for the extended VMCB TLB_Control." -/
  FlushByAsid : BitVec 1 := 0
  /-- [5] "VMCB clean bits. Indicates support for VMCB clean bits." -/
  VmcbClean : BitVec 1 := 0
  /-- [4] "MSR based TSC rate control. Indicates support for MSR TSC ratio MSRC000_0104." -/
  TscRateMsr : BitVec 1 := 0
  /-- [3] "NRIP save. Indicates support for NRIP save on #VMEXIT." -/
  NRIPS : BitVec 1 := 0
  /-- [2] "SVM lock. Indicates support for SVM-Lock." -/
  SVML : BitVec 1 := 0
  /-- [1] "LBR virtualization. Indicates support for LBR Virtualization." -/
  LbrVirt : BitVec 1 := 0
  /-- [0] "Nested paging. Indicates support for nested paging." -/
  NP : BitVec 1 := 0
  deriving DecidableEq, Repr, Inhabited

/-- `Fn8000_0019_EAX`, L1 TLB 1G Information (rule R257). -/
structure Fn8000_0019_EAX where
  /-- [31:28] "L1 data TLB associativity for 1 GB pages. See Table E-4". -/
  L1DTlb1GAssoc : BitVec 4 := 0
  /-- [27:16] "L1 data TLB number of entries for 1 GB pages." -/
  L1DTlb1GSize : BitVec 12 := 0
  /-- [15:12] "L1 instruction TLB associativity for 1 GB pages. See Table E-4". -/
  L1ITlb1GAssoc : BitVec 4 := 0
  /-- [11:0] "L1 instruction TLB number of entries for 1 GB pages." -/
  L1ITlb1GSize : BitVec 12 := 0
  deriving DecidableEq, Repr, Inhabited

/-- `Fn8000_0019_EBX`, L2 TLB 1G Information (rule R258). -/
structure Fn8000_0019_EBX where
  /-- [31:28] "L2 data TLB associativity for 1 GB pages. See Table E-4". -/
  L2DTlb1GAssoc : BitVec 4 := 0
  /-- [27:16] "L2 data TLB number of entries for 1 GB pages." -/
  L2DTlb1GSize : BitVec 12 := 0
  /-- [15:12] "L2 instruction TLB associativity for 1 GB pages. See Table E-4". -/
  L2ITlb1GAssoc : BitVec 4 := 0
  /-- [11:0] "L2 instruction TLB number of entries for 1 GB pages." -/
  L2ITlb1GSize : BitVec 12 := 0
  deriving DecidableEq, Repr, Inhabited

/-- `Fn8000_001A_EAX`, Performance Optimization Identifiers (rule R261). -/
structure Fn8000_001A_EAX where
  /-- [2] "The internal FP/SIMD execution data path is 256 bits wide." -/
  FP256 : BitVec 1 := 0
  /-- [1] "MOVU SSE instructions are more efficient and should be preferred to SSE MOVL/MOVH. MOVUPS is more efficient
      than MOVLPs/MOVHPS. MOVUPD is more efficient than MOVLPD/MOVHPD." -/
  MOVU : BitVec 1 := 0
  /-- [0] "The internal FP/SIMD execution data path is 128 bits wide." -/
  FP128 : BitVec 1 := 0
  deriving DecidableEq, Repr, Inhabited

/-- `Fn8000_001B_EAX`, Instruction-Based Sampling Feature Indicators (rule R265). -/
structure Fn8000_001B_EAX where
  /-- [11] "L3 Miss Filtering for IBS supported." -/
  IbsL3MissFiltering : BitVec 1 := 0
  /-- [8] "Fused branch micro-op indication supported." -/
  OpBrnFuse : BitVec 1 := 0
  /-- [7] "Invalid RIP indication supported." -/
  RipInvalidChk : BitVec 1 := 0
  /-- [6] "IbsOpCurCnt and IbsOpMaxCnt extend by 7 bits." -/
  OpCntExt : BitVec 1 := 0
  /-- [5] "Branch target address reporting supported." -/
  BrnTrgt : BitVec 1 := 0
  /-- [4] "Op counting mode supported." -/
  OpCnt : BitVec 1 := 0
  /-- [3] "Read write of op counter supported." -/
  RdWrOpCnt : BitVec 1 := 0
  /-- [2] "IBS execution sampling supported." -/
  OpSam : BitVec 1 := 0
  /-- [1] "IBS fetch sampling supported." -/
  FetchSam : BitVec 1 := 0
  /-- [0] "IBS feature flags valid." -/
  IBSFFV : BitVec 1 := 0
  deriving DecidableEq, Repr, Inhabited

/-- `Fn8000_001C_EAX`, Lightweight Profiling Capabilities 0 (rule R268). -/
structure Fn8000_001C_EAX where
  /-- [31] "Interrupt on threshold overflow available." -/
  LwpInt : BitVec 1 := 0
  /-- [30] "Performance time stamp counter in event record is available." -/
  LwpPTSC : BitVec 1 := 0
  /-- [29] "Sampling in continuous mode is available." -/
  LwpCont : BitVec 1 := 0
  /-- [6] "Core reference clocks not halted event available." -/
  LwpRNH : BitVec 1 := 0
  /-- [5] "Core clocks not halted event available." -/
  LwpCNH : BitVec 1 := 0
  /-- [4] "DC miss event available." -/
  LwpDME : BitVec 1 := 0
  /-- [3] "Branch retired event available." -/
  LwpBRE : BitVec 1 := 0
  /-- [2] "Instructions retired event available." -/
  LwpIRE : BitVec 1 := 0
  /-- [1] "LWPVAL instruction available." -/
  LwpVAL : BitVec 1 := 0
  /-- [0] "The LWP feature is available." -/
  LwpAvail : BitVec 1 := 0
  deriving DecidableEq, Repr, Inhabited

/-- `Fn8000_001C_EBX`, Lightweight Profiling Capabilities 0 (rule R269). -/
structure Fn8000_001C_EBX where
  /-- [31:24] "Offset in bytes from the start of the LWPCB to the EventInterval1 field." -/
  LwpEventOffset : BitVec 8 := 0
  /-- [23:16] "Maximum EventId value supported." -/
  LwpMaxEvents : BitVec 8 := 0
  /-- [15:8] "Event record size. Size in bytes of an event record in the LWP event ring buffer." -/
  LwpEventSize : BitVec 8 := 0
  /-- [7:0] "Control block size. Size in quadwords of the LWPCB." -/
  LwpCbSize : BitVec 8 := 0
  deriving DecidableEq, Repr, Inhabited

/-- `Fn8000_001C_ECX`, Lightweight Profiling Capabilities 0 (rule R270). -/
structure Fn8000_001C_ECX where
  /-- [31] "Cache latency filtering supported. Cache-related events can be filtered by latency." -/
  LwpCacheLatency : BitVec 1 := 0
  /-- [30] "Cache level filtering supported. Cache-related events can be filtered by the cache level that returned the
      data." -/
  LwpCacheLevels : BitVec 1 := 0
  /-- [29] "IP filtering supported." Printed `LwplpFiltering`, a lower-case l for the capital I (90_conflicts.md C13). -/
  LwpIpFiltering : BitVec 1 := 0
  /-- [28] "Branch prediction filtering supported. Branches Retired events can be filtered based on whether the branch
      was predicted properly." -/
  LwpBranchPrediction : BitVec 1 := 0
  /-- [23:16] "Event ring buffer size. Minimum size of the LWP event ring buffer, in units of 32 event records." -/
  LwpMinBufferSize : BitVec 8 := 0
  /-- [15:9] "Version of LWP implementation." -/
  LwpVersion : BitVec 7 := 0
  /-- [8:6] "Amount by which cache latency is rounded." -/
  LwpLatencyRnd : BitVec 3 := 0
  /-- [5] "Data cache miss address valid. Address is valid for cache miss event records." -/
  LwpDataAddress : BitVec 1 := 0
  /-- [4:0] "Latency counter size. Size in bits of the cache latency counters." -/
  LwpLatencyMax : BitVec 5 := 0
  deriving DecidableEq, Repr, Inhabited

/-- `Fn8000_001C_EDX`, Lightweight Profiling Capabilities 0 (rule R271). -/
structure Fn8000_001C_EDX where
  /-- [31] "Interrupt on threshold overflow supported." -/
  LwpInt : BitVec 1 := 0
  /-- [30] "Performance time stamp counter in event record is supported." -/
  LwpPTSC : BitVec 1 := 0
  /-- [29] "Sampling in continuous mode is supported." -/
  LwpCont : BitVec 1 := 0
  /-- [6] "Core reference clocks not halted event is supported." -/
  LwpRNH : BitVec 1 := 0
  /-- [5] "Core clocks not halted event is supported." -/
  LwpCNH : BitVec 1 := 0
  /-- [4] "DC miss event is supported." -/
  LwpDME : BitVec 1 := 0
  /-- [3] "Branch retired event is supported." -/
  LwpBRE : BitVec 1 := 0
  /-- [2] "Instructions retired event is supported." -/
  LwpIRE : BitVec 1 := 0
  /-- [1] "LWPVAL instruction is supported." -/
  LwpVAL : BitVec 1 := 0
  /-- [0] "Lightweight profiling is supported." -/
  LwpAvail : BitVec 1 := 0
  deriving DecidableEq, Repr, Inhabited

/-- `Fn8000_001D_EAX_xn`, Cache Properties, for `n < cfg.NumCaches` (rule R282). -/
structure Fn8000_001D_EAX_xn where
  /-- [25:14] "Specifies the number of logical processors sharing the cache enumerated by N, the value passed to the
      instruction in ECX. The number of logical processors sharing this cache is the value of this field incremented
      by 1. To determine which logical processors are sharing a cache, determine a Share Id for each processor as
      follows: ShareId = LocalApicId >> log2(NumSharingCache + 1) Logical processors with the same ShareId then share
      a cache. If NumSharingCache+1 is not a power of two, round it up to the next power of two." -/
  NumSharingCache : BitVec 12 := 0
  /-- [9] "Fully associative cache. When set, indicates that the cache is fully associative. If 0 is returned in this
      field, the cache is set associative." -/
  FullyAssociative : BitVec 1 := 0
  /-- [8] "Self-initializing cache. When set, indicates that the cache is self initializing; software initialization
      not required. If 0 is returned in this field, hardware does not initialize this cache." -/
  SelfInitialization : BitVec 1 := 0
  /-- [7:5] "Cache level. Identifies the level of this cache. Note that the enumeration value is not necessarily equal
      to the cache level." Values: 000b "Reserved."; 001b "Level 1"; 010b "Level 2"; 011b "Level 3"; 111b-100b
      "Reserved." -/
  CacheLevel : BitVec 3 := 0
  /-- [4:0] "Cache type. Identifies the type of cache." Values: 00h "Null; no more caches."; 01h "Data cache"; 02h
      "Instruction cache"; 03h "Unified cache"; 1Fh-04h "Reserved". -/
  CacheType : BitVec 5 := 0
  deriving DecidableEq, Repr, Inhabited

/-- `Fn8000_001D_EBX_xn`, Cache Properties, for `n < cfg.NumCaches` (rule R283). -/
structure Fn8000_001D_EBX_xn where
  /-- [31:22] "Number of ways for this cache. The number of ways is the value returned in this field incremented by
      1." -/
  CacheNumWays : BitVec 10 := 0
  /-- [21:12] "Number of physical line partitions. The number of physical line partitions is the value returned in
      this field incremented by 1." -/
  CachePhysPartitions : BitVec 10 := 0
  /-- [11:0] "Cache line size. The cache line size in bytes is the value returned in this field incremented by 1." -/
  CacheLineSize : BitVec 12 := 0
  deriving DecidableEq, Repr, Inhabited

/-- `Fn8000_001D_ECX_xn`, Cache Properties, for `n < cfg.NumCaches` (rule R284). -/
structure Fn8000_001D_ECX_xn where
  /-- [31:0] (cond) "Number of ways for set associative cache. Number of ways is the value returned in this field
      incremented by 1. Only valid for caches that are not fully associative (Fn8000_001D_EAX_xn[FullyAssociative] =
      0)." -/
  CacheNumSets : BitVec 32 := 0
  deriving DecidableEq, Repr, Inhabited

/-- `Fn8000_001D_EDX_xn`, Cache Properties, for `n < cfg.NumCaches` (rule R285). -/
structure Fn8000_001D_EDX_xn where
  /-- [1] "Cache inclusivity. A value of 0 indicates that this cache is not inclusive of lower cache levels. A value
      of 1 indicates that the cache is inclusive of lower cache levels." -/
  CacheInclusive : BitVec 1 := 0
  /-- [0] "Write-Back Invalidate/Invalidate execution scope. A value of 0 returned in this field indicates that the
      WBINVD/INVD instruction invalidates all lower level caches of non-originating logical processors sharing this
      cache. When set, this field indicates that the WBINVD/INVD instruction is not guaranteed to invalidate all lower
      level caches of non-originating logical processors sharing this cache." -/
  WBINVD : BitVec 1 := 0
  deriving DecidableEq, Repr, Inhabited

/-- `Fn8000_001E_EAX`, Extended APIC ID (rule R291). -/
structure Fn8000_001E_EAX where
  /-- [31:0] (cond) "Extended APIC ID. If MSR0000_001B[ApicEn] = 0, this field is reserved." -/
  ExtendedApicId : BitVec 32 := 0
  deriving DecidableEq, Repr, Inhabited

/-- `Fn8000_001E_EBX`, Compute Unit Identifiers (rule R292). -/
structure Fn8000_001E_EBX where
  /-- [15:8] "Threads per compute unit (zero-based count). The actual number of threads per compute unit is the value
      of this field + 1. To determine which logical processors (threads) belong to a given Compute Unit, determine a
      ShareId for each processor as follows: ShareId = LocalApicId >> log2(ThreadsPerComputeUnit + 1) Logical
      processors with the same ShareId then belong to the same Compute Unit. (If ThreadsPerComputeUnit+1 is not a
      power of two, round it up to the next power of two)." -/
  ThreadsPerComputeUnit : BitVec 8 := 0
  /-- [7:0] "Compute unit ID. Identifies a Compute Unit, which may be one or more physical cores that each implement
      one or more logical processors." -/
  ComputeUnitId : BitVec 8 := 0
  deriving DecidableEq, Repr, Inhabited

/-- `Fn8000_001E_ECX`, Node Identifiers (rule R293). -/
structure Fn8000_001E_ECX where
  /-- [10:8] "Specifies the number of nodes in the package/socket in which this logical processor resides. Node in
      this context corresponds to a processor die. Encoding is N-1, where N is the number of nodes present in the
      socket." -/
  NodesPerProcessor : BitVec 3 := 0
  /-- [7:0] "Specifies the ID of the node containing the current logical processor. NodeId values are unique across
      the system." -/
  NodeId : BitVec 8 := 0
  deriving DecidableEq, Repr, Inhabited

/-- `Fn8000_001F_EAX`, SEV Capabilities (rule R296). -/
structure Fn8000_001F_EAX where
  /-- [31] "IBPB on Entry supported." -/
  IbpbOnEntry : BitVec 1 := 0
  /-- [30] "Writes to Hypervisor-Owned pages are allowed when marked in-use." -/
  HvInUseWrAllowed : BitVec 1 := 0
  /-- [29] "VIRT_RMPUPDATE MSR (C001_F001h) and VIRT_PSMASH MSR (C001_F002h) supported." -/
  NestedVirtSnpMsr : BitVec 1 := 0
  /-- [28] "SVSM Communication Page MSR (C001_F000h) is supported." -/
  SvsmCommPageMsr : BitVec 1 := 0
  /-- [27] "Allowed SEV Features supported." -/
  AllowedSevFeatures : BitVec 1 := 0
  /-- [26] "Secure AVIC supported." -/
  SecureAvic : BitVec 1 := 0
  /-- [25] "SMT Protection supported." -/
  SmtProtection : BitVec 1 := 0
  /-- [24] "VMSA Register Protection supported." -/
  VmsaRegProt : BitVec 1 := 0
  /-- [23] "Segmented RMP supported." -/
  SegmentedRmp : BitVec 1 := 0
  /-- [22] "Guest intercept control supported." -/
  GuestInterceptCtl : BitVec 1 := 0
  /-- [21] "RMPREAD Instruction supported." -/
  RMPREAD : BitVec 1 := 0
  /-- [20] "PMC Virtualization supported for SEV-ES and SEV-SNP guests." -/
  PmcVirtGuestCtl : BitVec 1 := 0
  /-- [19] "IBS Virtualization supported for SEV-ES and SEV-SNP guests." -/
  IbsVirtGuestCtl : BitVec 1 := 0
  /-- [18] "Virtual TOM MSR supported." -/
  VirtualTomMsr : BitVec 1 := 0
  /-- [17] "VMGEXIT Parameter supported." -/
  VmgexitParameter : BitVec 1 := 0
  /-- [16] "Virtual Transparent Encryption supported." -/
  VTE : BitVec 1 := 0
  /-- [15] "Disallowing IBS use by the host supported." -/
  PreventHostIbs : BitVec 1 := 0
  /-- [14] "Full debug state virtualization supported for SEV-ES and SEV-SNP guests." -/
  DebugVirt : BitVec 1 := 0
  /-- [13] "Alternate Injection supported." -/
  AlternateInjection : BitVec 1 := 0
  /-- [12] "Restricted Injection supported." -/
  RestrictedInjection : BitVec 1 := 0
  /-- [11] "SEV guest execution only allowed from a 64-bit host." -/
  _64BitHost : BitVec 1 := 0
  /-- [10] "Hardware cache coherency across encryption domains enforced." -/
  HwEnfCacheCoh : BitVec 1 := 0
  /-- [9] "TSC AUX Virtualization supported." -/
  TscAuxVirtualization : BitVec 1 := 0
  /-- [8] "Secure TSC supported." -/
  SecureTsc : BitVec 1 := 0
  /-- [7] "VMPL Supervisor Shadow Stack supported." Printed `VmplISSS` (90_conflicts.md C13). -/
  VmplSSS : BitVec 1 := 0
  /-- [6] "RMPQUERY Instruction supported". -/
  RMPQUERY : BitVec 1 := 0
  /-- [5] "VM Permission Levels supported." -/
  VMPL : BitVec 1 := 0
  /-- [4] "SEV Secure Nested Paging supported." -/
  SEV_SNP : BitVec 1 := 0
  /-- [3] "SEV Encrypted State supported." -/
  SEV_ES : BitVec 1 := 0
  /-- [2] "Page Flush MSR available." -/
  PageFlushMsr : BitVec 1 := 0
  /-- [1] "Secure Encrypted Virtualization supported." -/
  SEV : BitVec 1 := 0
  /-- [0] "Secure Memory Encryption supported." -/
  SME : BitVec 1 := 0
  deriving DecidableEq, Repr, Inhabited

/-- `Fn8000_001F_EBX`, SEV Capabilities (rule R297). -/
structure Fn8000_001F_EBX where
  /-- [15:12] "Number of VM Permission Levels supported." -/
  NumVMPL : BitVec 4 := 0
  /-- [11:6] "Physical Address bit reduction." -/
  PhysAddrReduction : BitVec 6 := 0
  /-- [5:0] "C-bit location in page table entry." -/
  CbitPosition : BitVec 6 := 0
  deriving DecidableEq, Repr, Inhabited

/-- `Fn8000_001F_ECX`, SEV Capabilities (rule R298). -/
structure Fn8000_001F_ECX where
  /-- [31:0] "Number of encrypted guests supported simultaneously." -/
  NumEncryptedGuests : BitVec 32 := 0
  deriving DecidableEq, Repr, Inhabited

/-- `Fn8000_001F_EDX`, Minimum ASID (rule R299). -/
structure Fn8000_001F_EDX where
  /-- [31:0] "Minimum ASID value for an SEV enabled, SEV-ES disabled guest." -/
  MinSevNoEsAsid : BitVec 32 := 0
  deriving DecidableEq, Repr, Inhabited

/-- `Fn8000_0020_EBX_x0`, PQOS Extended Features (rule R301). -/
structure Fn8000_0020_EBX_x0 where
  /-- [6] "Smart Data Cache Injection (SDCI) Allocation Enforcement." -/
  SDCIAE : BitVec 1 := 0
  /-- [5] "Assignable Bandwidth Monitoring Counters." -/
  ABMC : BitVec 1 := 0
  /-- [4] "L3 Range Reservations." -/
  L3RR : BitVec 1 := 0
  /-- [3] "Bandwidth Monitoring Event Configuration." -/
  BMEC : BitVec 1 := 0
  /-- [2] "Slow Memory Bandwidth Enforcement." -/
  L3SMBE : BitVec 1 := 0
  /-- [1] "Memory Bandwidth Enforcement." -/
  L3MBE : BitVec 1 := 0
  deriving DecidableEq, Repr, Inhabited

/-- `Fn8000_0020_EAX_x1`, L3 Memory Bandwidth Enforcement Information (rule R302). -/
structure Fn8000_0020_EAX_x1 where
  /-- [31:0] "Identifies the size of the bandwidth specifier field in the L3QOS_BW_Control_n MSR." -/
  BW_LEN : BitVec 32 := 0
  deriving DecidableEq, Repr, Inhabited

/-- `Fn8000_0020_EDX_x1`, L3 Memory Bandwidth Enforcement Information (rule R302). -/
structure Fn8000_0020_EDX_x1 where
  /-- [31:0] "Maximum COS number supported by the L3MBE feature." -/
  COS_MAX : BitVec 32 := 0
  deriving DecidableEq, Repr, Inhabited

/-- `Fn8000_0020_EAX_x2`, L3 Slow Memory Bandwidth Enforcement Information (rule R303). -/
structure Fn8000_0020_EAX_x2 where
  /-- [31:0] "Identifies the size of the bandwidth specifier field in the L3QOS_SLOWBW_Control_n MSRs." -/
  BW_LEN : BitVec 32 := 0
  deriving DecidableEq, Repr, Inhabited

/-- `Fn8000_0020_EDX_x2`, L3 Slow Memory Bandwidth Enforcement Information (rule R303). -/
structure Fn8000_0020_EDX_x2 where
  /-- [31:0] "Maximum COS number supported by the L3SMBE feature." -/
  COS_MAX : BitVec 32 := 0
  deriving DecidableEq, Repr, Inhabited

/-- `Fn8000_0020_EBX_x3`, Bandwidth Monitoring Event Counters Information (rule R304). -/
structure Fn8000_0020_EBX_x3 where
  /-- [7:0] "Number of configurable bandwidth events." -/
  EVT_NUM : BitVec 8 := 0
  deriving DecidableEq, Repr, Inhabited

/-- `Fn8000_0020_ECX_x3`, Bandwidth Monitoring Event Counters Information (rule R304). -/
structure Fn8000_0020_ECX_x3 where
  /-- [6] "Dirty victim writes to all types of memory." -/
  L3CacheVicMon : BitVec 1 := 0
  /-- [5] "Reads to remote memory identified as “Slow Memory”." -/
  L3CacheRmtSlowBwFillMon : BitVec 1 := 0
  /-- [4] "Reads to local memory identified as “Slow Memory”." -/
  L3CacheLclSlowBwFillMon : BitVec 1 := 0
  /-- [3] "Non-temporal writes to remote memory." -/
  L3CacheRmtBwNtWrMon : BitVec 1 := 0
  /-- [2] "Non-temporal writes to local memory." -/
  L3CacheLclBwNtWrMon : BitVec 1 := 0
  /-- [1] "Reads to remote DRAM memory." -/
  L3CacheRmtBwFillMon : BitVec 1 := 0
  /-- [0] "Reads to local DRAM memory." -/
  L3CacheLclBwFillMon : BitVec 1 := 0
  deriving DecidableEq, Repr, Inhabited

/-- `Fn8000_0020_EAX_x5`, Assignable Bandwidth Monitoring Counters Information (rule R305). -/
structure Fn8000_0020_EAX_x5 where
  /-- [8] "Indicates that QM_CTR bit 61 is an overflow bit." -/
  OverflowBit : BitVec 1 := 0
  /-- [7:0] "QM_CTR counter width, offset from 24 bits. If 0, the family, model, and stepping should be used to
      determine the counter size." -/
  CounterSize : BitVec 8 := 0
  deriving DecidableEq, Repr, Inhabited

/-- `Fn8000_0020_EBX_x5`, Assignable Bandwidth Monitoring Counters Information (rule R305). -/
structure Fn8000_0020_EBX_x5 where
  /-- [15:0] "Maximum supported ABMC counter ID." -/
  MAX_ABMC : BitVec 16 := 0
  deriving DecidableEq, Repr, Inhabited

/-- `Fn8000_0020_ECX_x5`, Assignable Bandwidth Monitoring Counters Information (rule R305). -/
structure Fn8000_0020_ECX_x5 where
  /-- [0] "Bandwidth counters can be configured to measure bandwidth consumed by a COS instead of an RMID." -/
  Select_COS : BitVec 1 := 0
  deriving DecidableEq, Repr, Inhabited

/-- `Fn8000_0021_EAX`, Extended Feature 2 (rule R310). -/
structure Fn8000_0021_EAX where
  /-- [31] "Software may use MSR_BP_CFG[BpSpecReduce] to mitigate Speculative Return Stack Overflow vulnerability." -/
  SRSO_MSR_FIX : BitVec 1 := 0
  /-- [30] "The processor is not affected by Speculative Return Stack Overflow vulnerability across user/kernel
      boundaries." -/
  SRSO_USER_KERNEL_NO : BitVec 1 := 0
  /-- [29] "The processor is not affected by Speculative Return Stack Overflow vulnerability." -/
  SRSO_NO : BitVec 1 := 0
  /-- [28] "PRED_CMD[IBPB] clears all branch type predictions from the branch predictor." -/
  IBPB_BRTYPE : BitVec 1 := 0
  /-- [27] "Selective Branch Predictor Barrier supported." -/
  SBPB : BitVec 1 := 0
  /-- [24] "Enhanced Return Address Predictor Security supported." -/
  ERAPS : BitVec 1 := 0
  /-- [21] "FP512 is downgraded to FP256." -/
  FP512_DOWNGRADE : BitVec 1 := 0
  /-- [20] "IC prefetch supported." -/
  PREFETCHI : BitVec 1 := 0
  /-- [19] "Fast short REP SCASB supported." -/
  FAST_REP_SCASB : BitVec 1 := 0
  /-- [18] "Enhanced Predictive Store Forwarding supported." -/
  EPSF : BitVec 1 := 0
  /-- [17] "CPUID disable for non-privileged software." -/
  CpuidUserDis : BitVec 1 := 0
  /-- [16] "0F 01/7 opcode space is reserved for AMD use." -/
  Opcode0F017Reclaim : BitVec 1 := 0
  /-- [15] "AMD implementation of Enhanced REP MOVSB/STOSB is supported." -/
  AMD_ERMSB : BitVec 1 := 0
  /-- [14] "L2TLB sizes are encoded as multiples of 32." -/
  L2TlbSizeX32 : BitVec 1 := 0
  /-- [13] "Prefetch control MSR supported. See Core::X86::Msr::PrefetchControl in BKDG or PPR for details." -/
  PrefetchCtlMsr : BitVec 1 := 0
  /-- [12] "MSR PerfEvtSel2[PreciseRetire] is supported." -/
  Pmc2PreciseRetire : BitVec 1 := 0
  /-- [11] "Fast short REPE CMPSB supported." -/
  FastShortRepeCmpsbs : BitVec 1 := 0
  /-- [10] "Fast short REP STOSB supported." -/
  FastShortRepStosb : BitVec 1 := 0
  /-- [9] "SMM_CTL MSR (C001_0116h) is not supported." -/
  NoSmmCtlMSR : BitVec 1 := 0
  /-- [8] "Automatic IBRS." -/
  AutomaticIBRS : BitVec 1 := 0
  /-- [7] "Upper Address Ignore is supported." -/
  UpperAddressIgnore : BitVec 1 := 0
  /-- [6] "Null segment selector loads also clear the destination segment register base and limit." -/
  NullSelectClearsBase : BitVec 1 := 0
  /-- [3] "SMM paging configuration lock supported." -/
  SmmPgCfgLock : BitVec 1 := 0
  /-- [2] "LFENCE is always dispatch serializing." -/
  LFenceAlwaysSerializing : BitVec 1 := 0
  /-- [1] "WRMSR to FS.Base, GS.Base and KernelGSBase MSRs is not serializing." -/
  FsGsBaseWriteNotSerializing : BitVec 1 := 0
  /-- [0] "Processor ignores nested data breakpoints." -/
  NoNestedDataBp : BitVec 1 := 0
  deriving DecidableEq, Repr, Inhabited

/-- `Fn8000_0021_EBX`, Extended Feature 2 (rule R311). -/
structure Fn8000_0021_EBX where
  /-- [23:16] "Return Address Predictor size". -/
  RapSize : BitVec 8 := 0
  /-- [15:0] "The size of the Microcode patch in 16-byte multiples. If 0, the size of the patch is at most 5568
      (15C0h) bytes." -/
  MicrocodePatchSize : BitVec 16 := 0
  deriving DecidableEq, Repr, Inhabited

/-- `Fn8000_0022_EAX`, Extended Performance Monitoring and Debug (rule R315). -/
structure Fn8000_0022_EAX where
  /-- [2] "Freezing Core Performance Counters and LBR Stack on Core Performance Counter overflow supported." -/
  LbrAndPmcFreeze : BitVec 1 := 0
  /-- [1] "Last Branch Record Stack supported." -/
  LbrStack : BitVec 1 := 0
  /-- [0] "Performance Monitoring Version 2 supported. When set, CPUID_Fn8000_0022_EBX reports the number of available
      performance counters." -/
  PerfMonV2 : BitVec 1 := 0
  deriving DecidableEq, Repr, Inhabited

/-- `Fn8000_0022_EBX`, Extended Performance Monitoring and Debug (rule R316). -/
structure Fn8000_0022_EBX where
  /-- [15:10] "Number of Northbridge Performance Monitor Counters." -/
  NumPerfCtrNB : BitVec 6 := 0
  /-- [9:4] "Number of Last Branch Record Stack entries." -/
  LbrStackSize : BitVec 6 := 0
  /-- [3:0] "Number of Core Performance Counters." -/
  NumPerfCtrCore : BitVec 4 := 0
  deriving DecidableEq, Repr, Inhabited

/-- `Fn8000_0023_EAX`, Secure Multi-Key Encryption (rule R320). -/
structure Fn8000_0023_EAX where
  /-- [0] "Secure Host Multi-Key Memory (MEM-HMK) Encryption Mode Supported." -/
  MemHmk : BitVec 1 := 0
  deriving DecidableEq, Repr, Inhabited

/-- `Fn8000_0023_EBX`, Secure Multi-Key Encryption (rule R321). -/
structure Fn8000_0023_EBX where
  /-- [15:0] "Number of simultaneously available host encryption key IDs in MEM-HMK encryption mode." -/
  MaxMemHmkEncrKeyID : BitVec 16 := 0
  deriving DecidableEq, Repr, Inhabited

/-- `Fn8000_0025_EAX`, SEV Capabilities 2 (rule R325). -/
structure Fn8000_0025_EAX where
  /-- [11:6] "Maximum supported RMP segment size". -/
  MaxRmpSegSize : BitVec 6 := 0
  /-- [5:0] "Minimum supported RMP segment size". -/
  MinRmpSegSize : BitVec 6 := 0
  deriving DecidableEq, Repr, Inhabited

/-- `Fn8000_0025_EBX`, SEV Capabilities 2 (rule R326). -/
structure Fn8000_0025_EBX where
  /-- [10] "Number of RMP segments is reduced". -/
  NumSegReduction : BitVec 1 := 0
  /-- [9:0] "Number of cached RMP segment definitions". -/
  NumCachedSegments : BitVec 10 := 0
  deriving DecidableEq, Repr, Inhabited

/-- `Fn8000_0026_EAX_xn`, Extended CPU Topology, for `n < cfg.NumTopoLevels` (rule R332). -/
structure Fn8000_0026_EAX_xn where
  /-- [31] "Set to 1 if all components at the current hierarchy level do not report the same number of logical
      processors (NumLogProc)." -/
  AsymmetricTopology : BitVec 1 := 0
  /-- [30] "Set to 1 if all components at the current hierarchy level do not consist of the cores that report the same
      core type (CoreType)." -/
  HeterogeneousCores : BitVec 1 := 0
  /-- [29] (cond) "Set to 1 if processor power efficiency ranking (PwrEfficiencyRanking) is available and varies
      between cores. Only valid for LevelType = 1h (Core)." -/
  EfficiencyRankingAvailable : BitVec 1 := 0
  /-- [4:0] "Number of bits to shift Extended APIC ID right to get a unique topology ID of the current hierarchy
      level." -/
  MaskWidth : BitVec 5 := 0
  deriving DecidableEq, Repr, Inhabited

/-- `Fn8000_0026_EBX_xn`, Extended CPU Topology, for `n < cfg.NumTopoLevels` (rule R333). -/
structure Fn8000_0026_EBX_xn where
  /-- [31:28] (cond) "Reports a value that may be used to distinguish between cores with different architectural and
      microarchitectural properties (for example, cores with different performance or power characteristics). Refer to
      the Processor Programming Reference Manual applicable to your product for a list of the available core types.
      Only valid for LevelType = 1h (Core)." -/
  CoreType : BitVec 4 := 0
  /-- [27:24] (cond) "Reports a value that may be used to further differentiate implementation specific features.
      Native mode ID is used in conjunction with the family, model, and stepping identifiers. Refer to the Processor
      Programming Reference Manual applicable to your product for a list of Native Mode IDs. Only valid for LevelType
      = 1h (Core)." -/
  NativeModelID : BitVec 4 := 0
  /-- [23:16] (cond) "Reports a static efficiency ranking between cores of a specific core type, where a lower value
      indicates comparatively lower power consumption and lower performance. Only valid for LevelType = 1h (Core)." -/
  PwrEfficiencyRanking : BitVec 8 := 0
  /-- [15:0] "Number of logical processors at the current hierarchy level." -/
  NumLogProc : BitVec 16 := 0
  deriving DecidableEq, Repr, Inhabited

/-- `Fn8000_0026_ECX_xn`, Extended CPU Topology, for `n < cfg.NumTopoLevels` (rule R334). -/
structure Fn8000_0026_ECX_xn where
  /-- [15:8] "Encoded hierarchy level type." Values: 0h "Reserved"; 1h "Core"; 2h "Complex"; 3h "Die"; 4h "Socket";
      FFh-05h "Reserved". -/
  LevelType : BitVec 8 := 0
  deriving DecidableEq, Repr, Inhabited

/-- `Fn8000_0026_EDX`, Extended CPU Topology, for `n < cfg.NumTopoLevels` (rule R335). -/
structure Fn8000_0026_EDX where
  /-- [31:0] "Extended APIC ID of the logical processor." -/
  ExtendedApicId : BitVec 32 := 0
  deriving DecidableEq, Repr, Inhabited

/-- One cache of function 8000_001Dh: the four registers of `Fn8000_001D_xn` (R282 to R285). -/
structure Cache where
  EAX : Fn8000_001D_EAX_xn := default
  EBX : Fn8000_001D_EBX_xn := default
  ECX : Fn8000_001D_ECX_xn := default
  EDX : Fn8000_001D_EDX_xn := default
  deriving DecidableEq, Repr, Inhabited

/-- One hierarchy level of function 8000_0026h: the registers of `Fn8000_0026_xn` that belong to the level
(R332 to R334); EDX is of the logical processor, `Cfg.Fn8000_0026_EDX` (R335). -/
structure Level where
  EAX : Fn8000_0026_EAX_xn := default
  EBX : Fn8000_0026_EBX_xn := default
  ECX : Fn8000_0026_ECX_xn := default
  deriving DecidableEq, Repr, Inhabited

end Record

/-! ## The record -/

/-- The configuration record `cfg` of one logical processor (00_scope.md R7, 10_state.md R24). -/
structure Cfg where
  /-- R73, R100: the largest standard function number. -/
  LFuncStd : BitVec 32 := 0
  /-- R74, R200: the largest extended function number. -/
  LFuncExt : BitVec 32 := 0
  /-- R109, decision D12: the local APIC exists. -/
  ApicExists : BitVec 1 := 0
  /-- R124, decision D10: the highest supported subfunction number of function 7. -/
  Fn7_MaxSubFn : BitVec 32 := 0
  /-- R142, decision D8: how many hierarchy levels function Bh implements (0, 1 or 2). -/
  FnB_Levels : Fin 3 := 0
  /-- R146, R147: the 32-bit Extended APIC_ID, one member for both subfunctions of function Bh. -/
  x2APIC_ID : BitVec 32 := 0
  /-- R150: the class of subfunction `n + 2` of function Dh, for n from 0 to 60 (subfunctions 02h to 3Eh). -/
  FnD_Class : Vector SubfunctionClass 61 := Vector.replicate 61 .unimplemented
  /-- R153: the size function of the enabled mask. -/
  XFeatureEnabledSizeMax : SizeFunction := default
  Fn0000_0001_EAX : Record.Fn0000_0001_EAX := default
  Fn0000_0001_EBX : Record.Fn0000_0001_EBX := default
  Fn0000_0001_ECX : Record.Fn0000_0001_ECX := default
  Fn0000_0001_EDX : Record.Fn0000_0001_EDX := default
  Fn0000_0005_EAX : Record.Fn0000_0005_EAX := default
  Fn0000_0005_EBX : Record.Fn0000_0005_EBX := default
  Fn0000_0005_ECX : Record.Fn0000_0005_ECX := default
  Fn0000_0006_EAX : Record.Fn0000_0006_EAX := default
  Fn0000_0006_ECX : Record.Fn0000_0006_ECX := default
  Fn0000_0007_EBX_x0 : Record.Fn0000_0007_EBX_x0 := default
  Fn0000_0007_ECX_x0 : Record.Fn0000_0007_ECX_x0 := default
  Fn0000_0007_EAX_x1 : Record.Fn0000_0007_EAX_x1 := default
  Fn0000_000B_EAX_x0 : Record.Fn0000_000B_EAX_x0 := default
  Fn0000_000B_EBX_x0 : Record.Fn0000_000B_EBX_x0 := default
  Fn0000_000B_EAX_x1 : Record.Fn0000_000B_EAX_x1 := default
  Fn0000_000B_EBX_x1 : Record.Fn0000_000B_EBX_x1 := default
  Fn0000_000D_EAX_x0 : Record.Fn0000_000D_EAX_x0 := default
  Fn0000_000D_ECX_x0 : Record.Fn0000_000D_ECX_x0 := default
  Fn0000_000D_EDX_x0 : Record.Fn0000_000D_EDX_x0 := default
  Fn0000_000D_EAX_x1 : Record.Fn0000_000D_EAX_x1 := default
  Fn0000_000D_ECX_x1 : Record.Fn0000_000D_ECX_x1 := default
  Fn0000_000D_EAX_x2 : Record.Fn0000_000D_EAX_x2 := default
  Fn0000_000D_EBX_x2 : Record.Fn0000_000D_EBX_x2 := default
  Fn0000_000D_EAX_x0B : Record.Fn0000_000D_EAX_x0B := default
  Fn0000_000D_EBX_x0B : Record.Fn0000_000D_EBX_x0B := default
  Fn0000_000D_EAX_x0C : Record.Fn0000_000D_EAX_x0C := default
  Fn0000_000D_EBX_x0C : Record.Fn0000_000D_EBX_x0C := default
  Fn0000_000D_EAX_x3E : Record.Fn0000_000D_EAX_x3E := default
  Fn0000_000D_EBX_x3E : Record.Fn0000_000D_EBX_x3E := default
  Fn0000_000F_EBX_x0 : Record.Fn0000_000F_EBX_x0 := default
  Fn0000_000F_EDX_x0 : Record.Fn0000_000F_EDX_x0 := default
  Fn0000_000F_EAX_x1 : Record.Fn0000_000F_EAX_x1 := default
  Fn0000_000F_EBX_x1 : Record.Fn0000_000F_EBX_x1 := default
  Fn0000_000F_ECX_x1 : Record.Fn0000_000F_ECX_x1 := default
  Fn0000_000F_EDX_x1 : Record.Fn0000_000F_EDX_x1 := default
  Fn0000_0010_EDX_x0 : Record.Fn0000_0010_EDX_x0 := default
  Fn0000_0010_EAX_x1 : Record.Fn0000_0010_EAX_x1 := default
  Fn0000_0010_EBX_x1 : Record.Fn0000_0010_EBX_x1 := default
  Fn0000_0010_ECX_x1 : Record.Fn0000_0010_ECX_x1 := default
  Fn0000_0010_EDX_x1 : Record.Fn0000_0010_EDX_x1 := default
  Fn8000_0001_EBX : Record.Fn8000_0001_EBX := default
  Fn8000_0001_ECX : Record.Fn8000_0001_ECX := default
  Fn8000_0001_EDX : Record.Fn8000_0001_EDX := default
  Fn8000_0005_EAX : Record.Fn8000_0005_EAX := default
  Fn8000_0005_EBX : Record.Fn8000_0005_EBX := default
  Fn8000_0005_ECX : Record.Fn8000_0005_ECX := default
  Fn8000_0005_EDX : Record.Fn8000_0005_EDX := default
  Fn8000_0006_EAX : Record.Fn8000_0006_EAX := default
  Fn8000_0006_EBX : Record.Fn8000_0006_EBX := default
  Fn8000_0006_ECX : Record.Fn8000_0006_ECX := default
  Fn8000_0006_EDX : Record.Fn8000_0006_EDX := default
  Fn8000_0007_EBX : Record.Fn8000_0007_EBX := default
  Fn8000_0007_ECX : Record.Fn8000_0007_ECX := default
  Fn8000_0007_EDX : Record.Fn8000_0007_EDX := default
  Fn8000_0008_EAX : Record.Fn8000_0008_EAX := default
  Fn8000_0008_EBX : Record.Fn8000_0008_EBX := default
  Fn8000_0008_ECX : Record.Fn8000_0008_ECX := default
  Fn8000_0008_EDX : Record.Fn8000_0008_EDX := default
  Fn8000_000A_EAX : Record.Fn8000_000A_EAX := default
  Fn8000_000A_EBX : Record.Fn8000_000A_EBX := default
  Fn8000_000A_ECX : Record.Fn8000_000A_ECX := default
  Fn8000_000A_EDX : Record.Fn8000_000A_EDX := default
  Fn8000_0019_EAX : Record.Fn8000_0019_EAX := default
  Fn8000_0019_EBX : Record.Fn8000_0019_EBX := default
  Fn8000_001A_EAX : Record.Fn8000_001A_EAX := default
  Fn8000_001B_EAX : Record.Fn8000_001B_EAX := default
  Fn8000_001C_EAX : Record.Fn8000_001C_EAX := default
  Fn8000_001C_EBX : Record.Fn8000_001C_EBX := default
  Fn8000_001C_ECX : Record.Fn8000_001C_ECX := default
  Fn8000_001C_EDX : Record.Fn8000_001C_EDX := default
  Fn8000_001E_EAX : Record.Fn8000_001E_EAX := default
  Fn8000_001E_EBX : Record.Fn8000_001E_EBX := default
  Fn8000_001E_ECX : Record.Fn8000_001E_ECX := default
  Fn8000_001F_EAX : Record.Fn8000_001F_EAX := default
  Fn8000_001F_EBX : Record.Fn8000_001F_EBX := default
  Fn8000_001F_ECX : Record.Fn8000_001F_ECX := default
  Fn8000_001F_EDX : Record.Fn8000_001F_EDX := default
  Fn8000_0020_EBX_x0 : Record.Fn8000_0020_EBX_x0 := default
  Fn8000_0020_EAX_x1 : Record.Fn8000_0020_EAX_x1 := default
  Fn8000_0020_EDX_x1 : Record.Fn8000_0020_EDX_x1 := default
  Fn8000_0020_EAX_x2 : Record.Fn8000_0020_EAX_x2 := default
  Fn8000_0020_EDX_x2 : Record.Fn8000_0020_EDX_x2 := default
  Fn8000_0020_EBX_x3 : Record.Fn8000_0020_EBX_x3 := default
  Fn8000_0020_ECX_x3 : Record.Fn8000_0020_ECX_x3 := default
  Fn8000_0020_EAX_x5 : Record.Fn8000_0020_EAX_x5 := default
  Fn8000_0020_EBX_x5 : Record.Fn8000_0020_EBX_x5 := default
  Fn8000_0020_ECX_x5 : Record.Fn8000_0020_ECX_x5 := default
  Fn8000_0021_EAX : Record.Fn8000_0021_EAX := default
  Fn8000_0021_EBX : Record.Fn8000_0021_EBX := default
  Fn8000_0022_EAX : Record.Fn8000_0022_EAX := default
  Fn8000_0022_EBX : Record.Fn8000_0022_EBX := default
  Fn8000_0023_EAX : Record.Fn8000_0023_EAX := default
  Fn8000_0023_EBX : Record.Fn8000_0023_EBX := default
  Fn8000_0025_EAX : Record.Fn8000_0025_EAX := default
  Fn8000_0025_EBX : Record.Fn8000_0025_EBX := default
  Fn8000_0026_EDX : Record.Fn8000_0026_EDX := default
  /-- R281: the caches function 8000_001Dh enumerates, cache 0 first; `NumCaches` is their number. -/
  Fn8000_001D_x : List Record.Cache := []
  /-- R331: the levels function 8000_0026h enumerates, level 0 first; `NumTopoLevels` is their number. -/
  Fn8000_0026_x : List Record.Level := []
  deriving DecidableEq, Repr, Inhabited

/-- `cfg.NumCaches` (R281). -/
abbrev Cfg.NumCaches (cfg : Cfg) : Nat := cfg.Fn8000_001D_x.length

/-- `cfg.NumTopoLevels` (R331). -/
abbrev Cfg.NumTopoLevels (cfg : Cfg) : Nat := cfg.Fn8000_0026_x.length

/-! ## The free values

None of these has a body. A statement about the machine holds whatever they are. -/

/-- `rsv(32)` (40_cpuid_instruction.md R76, decision D5): word `word` of the draws of execution number `execution`.
Words 0 to 3 fill the reserved bits of EAX, EBX, ECX, EDX; words 4 to 7 the upper halves of RAX, RBX, RCX, RDX under
`UpperHalfPolicy.draw`. FREE VALUE, log entry 1. -/
opaque Config.rsv (execution word : Nat) : BitVec 32

/-- The record of the processor that comes out of reset (R24, R33). Free, log entry 2. -/
opaque Config.cfg : Cfg

/-- The upper-half policy of the processor that comes out of reset (D1). Free, log entry 3. -/
opaque Config.upperHalfPolicy : UpperHalfPolicy

end Sys2Proof
end

