-- ==== Sys2Proof/Machine/Operands.lean ====
section
/-! DEFINITION. The operand forms of CPUID and the shape of what it returns.

CPUID has no explicit operand: it reads EAX and ECX and returns four 32-bit values (30_encoding.md R51). An ENTRY of
the CPUID information space (20_memory.md R40) is here the list of its DEFINED fields, one list for each return
register; the bits no field covers are reserved and take the draw of the execution (40_cpuid_instruction.md R77).
So what the spec promises of an entry, and what it leaves to a draw, are two separate things. -/

namespace Sys2Proof.Machine

/-- The four 32-bit values `(a, b, c, d)` of 00_scope.md R8, for EAX, EBX, ECX and EDX. -/
structure Regs4 where
  eax : Word
  ebx : Word
  ecx : Word
  edx : Word
  deriving DecidableEq, Repr

/-- A field `REG[hi:lo]` of a return register with its value, as wide as its bit range (00_scope.md R8, R9). -/
structure Field where
  hi : Nat
  lo : Nat
  val : BitVec (hi - lo + 1)
  deriving DecidableEq, Repr

/-- The bits `[hi:lo]` of a register: 1 at each, 0 elsewhere. -/
def rangeMask (hi lo : Nat) : Word :=
  (BitVec.allOnes (hi - lo + 1)).setWidth 32 <<< lo

/-- `v` with the field's bits replaced by the field's value. -/
def Field.put (f : Field) (v : Word) : Word :=
  (v &&& ~~~rangeMask f.hi f.lo) ||| (f.val.setWidth 32 <<< f.lo)

/-- A field of kind `cond` (R79, decision D30): present when its condition holds, a draw otherwise. -/
def Field.onlyIf (valid : Bool) (f : Field) : List Field :=
  if valid then [f] else []

/-- The defined fields of one return register; bits outside all of them are reserved. -/
abbrev Register := List Field

/-- A register that is wholly reserved or undefined: no field, 32 draws (30_encoding.md R56). -/
def reserved : Register := []

/-- The register the processor returns: the draw, with every defined field laid over it (R77). -/
def Register.fill (fs : Register) (draw : Word) : Word :=
  fs.foldr Field.put draw

/-- `defined_mask`: a 1 for every bit that a field covers (R77). -/
def Register.definedMask (fs : Register) : Word :=
  fs.foldr (fun f m => rangeMask f.hi f.lo ||| m) 0

/-- An entry of the CPUID information space (20_memory.md R40). -/
structure Entry where
  eax : Register
  ebx : Register
  ecx : Register
  edx : Register

/-- `draws4` (R75): four wholly reserved registers. -/
def Entry.draws4 : Entry := ⟨reserved, reserved, reserved, reserved⟩

/-- A register the source promises to be zero in all 32 bits (kind `zero`). -/
def zeroRegister : Register := [⟨31, 0, 0⟩]

/-- The four return values: each register's fields over its own draw. -/
def Entry.fill (e : Entry) (d : Regs4) : Regs4 :=
  ⟨e.eax.fill d.eax, e.ebx.fill d.ebx, e.ecx.fill d.ecx, e.edx.fill d.edx⟩

/-- The defined masks of the four registers. -/
def Entry.definedMask (e : Entry) : Regs4 :=
  ⟨e.eax.definedMask, e.ebx.definedMask, e.ecx.definedMask, e.edx.definedMask⟩

/-- `InputEcx` (kind `echo`): the low byte of the input ECX (42_std_fnB_to_fn10.md R145, 45_ext_fn1D_to_fn26.md
R334). -/
def inputEcx (sub : Word) : BitVec 8 := sub.setWidth 8

end Sys2Proof.Machine

namespace Sys2Proof

/-- The value of the size function at an argument (42_std_fnB_to_fn10.md R153). -/
def SizeFunction.apply (f : SizeFunction) (xcr0 : Quadword) : Word :=
  match f.entries.find? (fun e => e.1 == xcr0) with
  | some e => e.2
  | none => f.other

/-- `XFeatureSupportedMask = {cfg.Fn0000_000D_EDX_x0, cfg.Fn0000_000D_EAX_x0}` (10_state.md R27). -/
def Cfg.xFeatureSupportedMask (cfg : Cfg) : Quadword :=
  cfg.Fn0000_000D_EDX_x0.XFeatureSupportedMaskHi ++ cfg.Fn0000_000D_EAX_x0.XFeatureSupportedMaskLo

/-- `cfg.FnD_Class(sub)` for `sub` from 02h to 3Eh (42_std_fnB_to_fn10.md R150); the parameter has no other argument,
and `unimplemented` stands there (R168 gives the same four zeros above 3Eh). -/
def Cfg.fnDClass (cfg : Cfg) (sub : Word) : SubfunctionClass :=
  if h : 2 ≤ sub.toNat ∧ sub.toNat ≤ 0x3E then cfg.FnD_Class[sub.toNat - 2]'(by omega) else .unimplemented

/-- `Family[7:0]` (41_std_fn0_to_fn7.md R104): BaseFamily plus ExtFamily when BaseFamily is Fh, else BaseFamily. -/
def familyOf (r : Record.Fn0000_0001_EAX) : BitVec 8 :=
  if r.BaseFamily = 0xF then r.BaseFamily.setWidth 8 + r.ExtFamily else r.BaseFamily.setWidth 8

/-- `Model[7:0]` (R104): ExtModel followed by BaseModel when BaseFamily is Fh, else BaseModel. -/
def modelOf (r : Record.Fn0000_0001_EAX) : BitVec 8 :=
  if r.BaseFamily = 0xF then r.ExtModel ++ r.BaseModel else r.BaseModel.setWidth 8

end Sys2Proof
end

