-- ==== Sys2Proof/WellFormed.lean ====
section
/-! DEFINITION. What an instruction and a configuration must meet.

`CPUID` has no operand, so an instruction has nothing to check. The checks are those of the configuration: the
constraints the source states between its fields (10_state.md R25; R150, R153, R281, R331, R342). "A record that
breaks one is not a configuration of this hardware." R25 (a), (b) and (c) hold by construction: the vendor constants
are no members, and the fields the functions 1 and 8000_0001h share are one member each. -/

namespace Sys2Proof

/-- Every instruction is well formed: `CPUID` has no field to check (30_encoding.md R51). -/
def Instr.wellFormed : Instr → Bool
  | .cpuid => true

/-- R25 (d), decision D22: `BaseFamily = Fh` and `ExtFamily <= F0h`. -/
def Cfg.identityOk (cfg : Cfg) : Bool :=
  cfg.Fn0000_0001_EAX.BaseFamily == 0xF && decide (cfg.Fn0000_0001_EAX.ExtFamily ≤ 0xF0)

/-- R25 (e), R343: Table E-5, with n = NC + 1 logical processors per package. For `NC = FFh` the count 256 does not fit
`LogicalProcessorCount`, which is then unconstrained (decision D29). -/
def Cfg.tableE5Ok (cfg : Cfg) : Bool :=
  let nc := cfg.Fn8000_0008_ECX.NC
  if nc = 0 then
    cfg.Fn8000_0001_ECX.CmpLegacy == 0 && cfg.Fn0000_0001_EDX.HTT == 0
  else
    cfg.Fn8000_0001_ECX.CmpLegacy == 1 && cfg.Fn0000_0001_EDX.HTT == 1 &&
      (nc == 0xFF || cfg.Fn0000_0001_EBX.LogicalProcessorCount == nc + 1)

/-- R25 (f): the largest function numbers lie in their ranges. -/
def Cfg.rangesOk (cfg : Cfg) : Bool :=
  decide (cfg.LFuncStd < 0x40000000) && decide (0x80000000 ≤ cfg.LFuncExt)

/-- R281: no cache that is enumerated has the Null type. -/
def Cfg.cachesOk (cfg : Cfg) : Bool :=
  cfg.Fn8000_001D_x.all fun c => c.EAX.CacheType != 0

/-- R331: no level that is enumerated has LevelType 0. -/
def Cfg.levelsOk (cfg : Cfg) : Bool :=
  cfg.Fn8000_0026_x.all fun l => l.ECX.LevelType != 0

/-- R342: the package holds at most MNLP logical processors, `NC + 1 <= 2 ^ ApicIdSize` when `ApicIdSize` is not 0. -/
def Cfg.mnlpOk (cfg : Cfg) : Bool :=
  cfg.Fn8000_0008_ECX.ApicIdSize == 0 ||
    decide (cfg.Fn8000_0008_ECX.NC.toNat + 1 ≤ 2 ^ cfg.Fn8000_0008_ECX.ApicIdSize.toNat)

/-- The subfunctions of function Dh above 1 that the source describes (R150). -/
def describedSubfunctions : List Nat := [0x02, 0x0B, 0x0C, 0x3E]

/-- R150, decision D9: a described subfunction is implemented or unimplemented, another one unimplemented or
undescribed. -/
def Cfg.classesOk (cfg : Cfg) : Bool :=
  (List.range 61).all fun n =>
    if (n + 2) ∈ describedSubfunctions then cfg.fnDClass (BitVec.ofNat 32 (n + 2)) != .undescribed
    else cfg.fnDClass (BitVec.ofNat 32 (n + 2)) != .implemented

/-- R153: at the full supported mask the size function gives `XFeatureSupportedSizeMax`. -/
def Cfg.sizeOk (cfg : Cfg) : Bool :=
  cfg.XFeatureEnabledSizeMax.apply cfg.xFeatureSupportedMask == cfg.Fn0000_000D_ECX_x0.XFeatureSupportedSizeMax

/-- 93_implementation_defined.md part 1.4: the size function is bounded by `XFeatureSupportedSizeMax`. -/
def Cfg.sizeBounded (cfg : Cfg) : Bool :=
  (cfg.XFeatureEnabledSizeMax.entries.all fun e =>
      decide (e.2 ≤ cfg.Fn0000_000D_ECX_x0.XFeatureSupportedSizeMax)) &&
    decide (cfg.XFeatureEnabledSizeMax.other ≤ cfg.Fn0000_000D_ECX_x0.XFeatureSupportedSizeMax)

/-- A configuration of this hardware. -/
def Cfg.wellFormed (cfg : Cfg) : Bool :=
  cfg.identityOk && cfg.tableE5Ok && cfg.rangesOk && cfg.cachesOk && cfg.levelsOk && cfg.mnlpOk && cfg.classesOk &&
    cfg.sizeOk && cfg.sizeBounded

/-- The least well-formed record: every field 0 but for the two the source forces (R25 (d), (f)). -/
def Cfg.minimal : Cfg :=
  { Fn0000_0001_EAX := { BaseFamily := 0xF }, LFuncExt := 0x80000000 }

end Sys2Proof
end

