-- ==== Sys2Proof/Machine/State.lean ====
section
/-! DEFINITION. The state of the machine, the reasons it stops, and reset.

What is here is 10_state.md: the four registers with their containing registers (R20, R21), the program counter (R22),
the flags (R23), the record `cfg` (R24), the state CPUID reads and does not write (R26 to R29), the local APIC ID
register (R30, R33), and the memory that holds the program text (20_memory.md R41, R44). -/

namespace Sys2Proof.Machine

/-- The four registers CPUID uses (R20), in register-index order (43_ext_fn0_to_fn8.md R213: EAX = 0, EBX = 1,
ECX = 2, EDX = 3). -/
inductive Reg where
  | eax
  | ebx
  | ecx
  | edx
  deriving DecidableEq, Repr

/-- `env` (R26): the processor state outside the four registers that some return value depends on. CPUID never
writes it. -/
structure Env where
  /-- 1 when the operating system has enabled XSAVE and related instructions (decision D13). -/
  OSXSAVE : BitVec 1
  /-- The control bit `CR4.PKE`. -/
  CR4_PKE : BitVec 1
  /-- `XCR0`, also `XFEATURE_ENABLED_MASK` and `XFeatureEnabledMask` (R27). -/
  XCR0 : Quadword
  /-- The "XSS MSR" (R28). -/
  XSS : Quadword
  /-- `MSR0000_001B[ApicEn]` (decision D12). -/
  ApicEn : BitVec 1
  /-- The processor name string, 48 bytes, the leftmost character first (R29). -/
  NameString : Vector Byte 48
  /-- The current privilege level, 0 the most privileged (60_exceptions.md R360). -/
  CPL : BitVec 2
  /-- The enable of the `CpuidUserDis` facility (60_exceptions.md R352, decision D16). -/
  CpuidUserDisEnabled : BitVec 1
  deriving DecidableEq, Repr

/-- Memory: the bytes that have been written, as (address, byte) pairs with strictly rising addresses. -/
abbrev Memory := List Host.Cell

/-- The canonical form of a memory: every address below 2^64, the addresses strictly rising. An unlisted address
reads as nothing (`Memory.unlisted`), which no listed byte equals. -/
def Memory.wf (m : Memory) : Bool :=
  (m.map Prod.fst).Pairwise (· < ·) && m.all fun c => decide (c.1 < 2 ^ 64)

/-- The state of one logical processor. -/
structure State where
  /-- RAX; EAX is its bits 31:0 (R20, R21). -/
  rax : Quadword
  /-- RBX; EBX is its bits 31:0. -/
  rbx : Quadword
  /-- RCX; ECX is its bits 31:0. -/
  rcx : Quadword
  /-- RDX; EDX is its bits 31:0. -/
  rdx : Quadword
  /-- The address of the instruction being executed (R22). -/
  pc : Quadword
  /-- The width W of the instruction pointer in the current mode (R22). -/
  ipWidth : IpWidth
  /-- The flags register (R23): CPUID reads no flag and writes none. -/
  eflags : BitVec 32
  /-- The configuration record of this logical processor; no instruction changes it (R24). -/
  cfg : Cfg
  /-- What CPUID leaves in bits 63:32 (R21, decision D1); no instruction changes it. -/
  upperHalfPolicy : UpperHalfPolicy
  /-- The state CPUID reads and does not write (R26). -/
  env : Env
  /-- The local APIC physical ID register, which CPUID neither reads nor writes (R30, R33). -/
  apicIdRegister : BitVec 8
  /-- The memory, which holds the program text (20_memory.md R41, R44). -/
  mem : Memory
  /-- The MODEL's own field: how many executions of CPUID have drawn their reserved bits (R76). -/
  drawCount : Nat
  deriving DecidableEq, Repr

/-- Why the machine stops with a fault. -/
inductive Fault where
  /-- `Fault(GP, errorCode)`: the terminal state of R356. Raised by CPUID alone, when `CpuidUserDis` is enabled and the
  privilege level is above 0 (R352). Safe: the hardware goes on in a handler the spec does not describe. -/
  | gp (errorCode : Nat)
  deriving DecidableEq, Repr

/-- Why the machine gives no meaning. -/
inductive Refusal where
  /-- An instruction of the table without a meaning. Raised by no instruction of this model. Safe. -/
  | notModelled (mnemonic : String)
  /-- A prefixed form at `pc` (30_encoding.md R58, decision D25). Raised by the fetch of `step`. Safe. -/
  | prefixedForm (first : Byte)
  /-- The bytes at `pc` are no instruction of this spec (00_scope.md, scope table). Raised by the fetch of `step`.
  Safe. -/
  | notCpuid (first second : Byte)
  /-- The fetch gave the decoder too few bytes. Raised by no fetch of `step`, which reads two bytes. Safe. -/
  | truncated
  /-- No program text at an address of the fetch: nothing has written the byte (20_memory.md R44: the text "is present
  and executable" is a premise; 93_implementation_defined.md part 1.5: "refuse"). Raised by the fetch of `step`.
  Safe. -/
  | textAbsent (address : Nat)
  deriving DecidableEq, Repr

/-- The record of the processor that comes out of reset: the free record where it is a configuration of this hardware,
else the least such record. So all that is known of it is that it is well formed (R24, R25, R33). -/
def State.resetCfg : Cfg :=
  if Config.cfg.wellFormed then Config.cfg else Cfg.minimal

/-- A processor signature of the form of `Fn0000_0001_EAX`, its reserved bits 0 (R33). -/
def signatureOf (r : Record.Fn0000_0001_EAX) : Word :=
  0#4 ++ r.ExtFamily ++ r.ExtModel ++ 0#4 ++ r.BaseFamily ++ r.BaseModel ++ r.Stepping

/-- `env` right after reset (R33): the values the table marks as general knowledge, within R27 (log entry 6), and those
of log entry 7 for the rest. -/
def Env.reset (cfg : Cfg) : Env where
  OSXSAVE := 0
  CR4_PKE := 0
  XCR0 := 1 &&& cfg.xFeatureSupportedMask
  XSS := 0
  ApicEn := 0
  NameString := Vector.replicate 48 0
  CPL := 0
  CpuidUserDisEnabled := 0

/-- The machine right after reset (R33, R370). The source fixes one value, the local APIC ID register; the others are
those of log entries 2 to 8. -/
def State.reset : State where
  rax := 0
  rbx := 0
  rcx := 0
  rdx := (signatureOf State.resetCfg.Fn0000_0001_EAX).setWidth 64
  pc := 0xFFF0
  ipWidth := .w16
  eflags := 0x00000002
  cfg := State.resetCfg
  upperHalfPolicy := Config.upperHalfPolicy
  env := Env.reset State.resetCfg
  apicIdRegister := State.resetCfg.Fn0000_0001_EBX.LocalApicId
  mem := []
  drawCount := 0

end Sys2Proof.Machine
end

