-- ==== Sys2Proof/Machine/Flags.lean ====
section
/-! DEFINITION. The flags (10_state.md R23).

The spec computes no flag: CPUID reads none and writes none, and no rule gives a flag a bit position except the ID flag,
whose availability test the hardware in scope does not need. -/

namespace Sys2Proof.Machine

/-- The flags register after CPUID (R23, decision D3): "every flag holds after CPUID the value it held before". -/
def flagsAfterCpuid (before : BitVec 32) : BitVec 32 := before

end Sys2Proof.Machine
end

