-- ==== Sys2Proof/Machine/ExtFn0.lean ====
section
/-! DEFINITION. Extended functions 8000_0000h to 8000_0008h (43_ext_fn0_to_fn8.md).

None takes a subfunction or has a gate. The fields of function 8000_0001h that the source calls "the same" as those of
function 1 are the same members of the record (R203, R206). -/

namespace Sys2Proof.Machine

/-! ## Function 8000_0000h: maximum extended function number and vendor string -/

/-- `Fn8000_0000_EAX` Largest Extended Function Number (R200). -/
def fn8000_0000_EAX (cfg : Cfg) (_env : Env) (_sub : Word) : Register :=
  [ ⟨31, 0, cfg.LFuncExt⟩ ]

/-- `Fn8000_0000_EBX` Processor Vendor (R201). -/
def fn8000_0000_EBX (_cfg : Cfg) (_env : Env) (_sub : Word) : Register :=
  [ ⟨31, 0, 0x68747541⟩ /- Vendor -/ ]

/-- `Fn8000_0000_ECX` Processor Vendor (R201). -/
def fn8000_0000_ECX (_cfg : Cfg) (_env : Env) (_sub : Word) : Register :=
  [ ⟨31, 0, 0x444D4163⟩ /- Vendor -/ ]

/-- `Fn8000_0000_EDX` Processor Vendor (R201). -/
def fn8000_0000_EDX (_cfg : Cfg) (_env : Env) (_sub : Word) : Register :=
  [ ⟨31, 0, 0x69746E65⟩ /- Vendor -/ ]

/-- Function 8000_0000h: maximum extended function number and vendor string (R200, R201). -/
def leaf8000_0000 (cfg : Cfg) (env : Env) (sub : Word) : Entry :=
  { eax := fn8000_0000_EAX cfg env sub,
    ebx := fn8000_0000_EBX cfg env sub,
    ecx := fn8000_0000_ECX cfg env sub,
    edx := fn8000_0000_EDX cfg env sub }

/-! ## Function 8000_0001h: extended processor and processor feature identifiers -/

/-- `Fn8000_0001_EAX` AMD Family, Model, Stepping (R203). -/
def fn8000_0001_EAX (cfg : Cfg) (_env : Env) (_sub : Word) : Register :=
  Field.onlyIf (cfg.Fn0000_0001_EAX.BaseFamily == 0xF) ⟨27, 20, cfg.Fn0000_0001_EAX.ExtFamily⟩ ++
  Field.onlyIf (cfg.Fn0000_0001_EAX.BaseFamily == 0xF) ⟨19, 16, cfg.Fn0000_0001_EAX.ExtModel⟩ ++
  [ ⟨11, 8, cfg.Fn0000_0001_EAX.BaseFamily⟩, ⟨7, 4, cfg.Fn0000_0001_EAX.BaseModel⟩,
      ⟨3, 0, cfg.Fn0000_0001_EAX.Stepping⟩ ]

/-- `Fn8000_0001_EBX` BrandId Identifier (R204). -/
def fn8000_0001_EBX (cfg : Cfg) (_env : Env) (_sub : Word) : Register :=
  Field.onlyIf (decide (0x10 ≤ familyOf cfg.Fn0000_0001_EAX)) ⟨31, 28, cfg.Fn8000_0001_EBX.PkgType⟩ ++
  [ ⟨15, 0, cfg.Fn8000_0001_EBX.BrandId⟩ ]

/-- `Fn8000_0001_ECX` Feature Identifiers (R205). -/
def fn8000_0001_ECX (cfg : Cfg) (_env : Env) (_sub : Word) : Register :=
  [ ⟨30, 30, cfg.Fn8000_0001_ECX.AddrMaskExt⟩, ⟨29, 29, cfg.Fn8000_0001_ECX.MONITORX⟩,
      ⟨28, 28, cfg.Fn8000_0001_ECX.PerfCtrExtLLC⟩, ⟨27, 27, cfg.Fn8000_0001_ECX.PerfTsc⟩,
      ⟨26, 26, cfg.Fn8000_0001_ECX.DataBkptExt⟩, ⟨24, 24, cfg.Fn8000_0001_ECX.PerfCtrExtNB⟩,
      ⟨23, 23, cfg.Fn8000_0001_ECX.PerfCtrExtCore⟩, ⟨22, 22, cfg.Fn8000_0001_ECX.TopologyExtensions⟩,
      ⟨21, 21, cfg.Fn8000_0001_ECX.TBM⟩, ⟨17, 17, cfg.Fn8000_0001_ECX.TCE⟩, ⟨16, 16, cfg.Fn8000_0001_ECX.FMA4⟩,
      ⟨15, 15, cfg.Fn8000_0001_ECX.LWP⟩, ⟨13, 13, cfg.Fn8000_0001_ECX.WDT⟩, ⟨12, 12, cfg.Fn8000_0001_ECX.SKINIT⟩,
      ⟨11, 11, cfg.Fn8000_0001_ECX.XOP⟩, ⟨10, 10, cfg.Fn8000_0001_ECX.IBS⟩, ⟨9, 9, cfg.Fn8000_0001_ECX.OSVW⟩,
      ⟨8, 8, cfg.Fn8000_0001_ECX._3DNowPrefetch⟩, ⟨7, 7, cfg.Fn8000_0001_ECX.MisAlignSse⟩,
      ⟨6, 6, cfg.Fn8000_0001_ECX.SSE4A⟩, ⟨5, 5, cfg.Fn8000_0001_ECX.ABM⟩, ⟨4, 4, cfg.Fn8000_0001_ECX.AltMovCr8⟩,
      ⟨3, 3, cfg.Fn8000_0001_ECX.ExtApicSpace⟩, ⟨2, 2, cfg.Fn8000_0001_ECX.SVM⟩,
      ⟨1, 1, cfg.Fn8000_0001_ECX.CmpLegacy⟩, ⟨0, 0, cfg.Fn8000_0001_ECX.LahfSahf⟩ ]

/-- `Fn8000_0001_EDX` Feature Identifiers (R206). -/
def fn8000_0001_EDX (cfg : Cfg) (env : Env) (_sub : Word) : Register :=
  [ ⟨31, 31, cfg.Fn8000_0001_EDX._3DNow⟩, ⟨30, 30, cfg.Fn8000_0001_EDX._3DNowExt⟩,
      ⟨29, 29, cfg.Fn8000_0001_EDX.LM⟩, ⟨27, 27, cfg.Fn8000_0001_EDX.RDTSCP⟩,
      ⟨26, 26, cfg.Fn8000_0001_EDX.Page1GB⟩, ⟨25, 25, cfg.Fn8000_0001_EDX.FFXSR⟩,
      ⟨24, 24, cfg.Fn0000_0001_EDX.FXSR⟩, ⟨23, 23, cfg.Fn0000_0001_EDX.MMX⟩,
      ⟨22, 22, cfg.Fn8000_0001_EDX.MmxExt⟩, ⟨20, 20, cfg.Fn8000_0001_EDX.NX⟩,
      ⟨17, 17, cfg.Fn0000_0001_EDX.PSE36⟩, ⟨16, 16, cfg.Fn0000_0001_EDX.PAT⟩, ⟨15, 15, cfg.Fn0000_0001_EDX.CMOV⟩,
      ⟨14, 14, cfg.Fn0000_0001_EDX.MCA⟩, ⟨13, 13, cfg.Fn0000_0001_EDX.PGE⟩, ⟨12, 12, cfg.Fn0000_0001_EDX.MTRR⟩,
      ⟨11, 11, cfg.Fn8000_0001_EDX.SysCallSysRet⟩, ⟨9, 9, cfg.ApicExists &&& env.ApicEn⟩,
      ⟨8, 8, cfg.Fn0000_0001_EDX.CMPXCHG8B⟩, ⟨7, 7, cfg.Fn0000_0001_EDX.MCE⟩, ⟨6, 6, cfg.Fn0000_0001_EDX.PAE⟩,
      ⟨5, 5, cfg.Fn0000_0001_EDX.MSR⟩, ⟨4, 4, cfg.Fn0000_0001_EDX.TSC⟩, ⟨3, 3, cfg.Fn0000_0001_EDX.PSE⟩,
      ⟨2, 2, cfg.Fn0000_0001_EDX.DE⟩, ⟨1, 1, cfg.Fn0000_0001_EDX.VME⟩, ⟨0, 0, cfg.Fn0000_0001_EDX.FPU⟩ ]

/-- Function 8000_0001h: extended processor and processor feature identifiers (R203 to R206). -/
def leaf8000_0001 (cfg : Cfg) (env : Env) (sub : Word) : Entry :=
  { eax := fn8000_0001_EAX cfg env sub,
    ebx := fn8000_0001_EBX cfg env sub,
    ecx := fn8000_0001_ECX cfg env sub,
    edx := fn8000_0001_EDX cfg env sub }

/-! ## Functions 8000_0002h to 8000_0004h: the processor name string -/

/-- Four characters of the name string, the first of them in bits 7:0 (R213, 20_memory.md R42). -/
def nameWord (name : Vector Byte 48) (base : Fin 45) : Word :=
  name[base.val + 3] ++ name[base.val + 2] ++ name[base.val + 1] ++ name[base.val]

/-- The registers of function `8000_0002h + k` (R213): register r holds the four characters from `16 * k + 4 * r` on, in
the order EAX, EBX, ECX, EDX. -/
def nameEntry (env : Env) (k : Fin 3) : Entry :=
  { eax := [⟨31, 0, nameWord env.NameString ⟨16 * k.val, by omega⟩⟩],
    ebx := [⟨31, 0, nameWord env.NameString ⟨16 * k.val + 4, by omega⟩⟩],
    ecx := [⟨31, 0, nameWord env.NameString ⟨16 * k.val + 8, by omega⟩⟩],
    edx := [⟨31, 0, nameWord env.NameString ⟨16 * k.val + 12, by omega⟩⟩] }

/-- Function 8000_0002h: characters 0 to 15 of the name string (R213). -/
def leaf8000_0002 (_cfg : Cfg) (env : Env) (_sub : Word) : Entry := nameEntry env 0

/-- Function 8000_0003h: characters 16 to 31 of the name string (R213). -/
def leaf8000_0003 (_cfg : Cfg) (env : Env) (_sub : Word) : Entry := nameEntry env 1

/-- Function 8000_0004h: characters 32 to 47 of the name string (R213). -/
def leaf8000_0004 (_cfg : Cfg) (env : Env) (_sub : Word) : Entry := nameEntry env 2

/-! ## Function 8000_0005h: L1 cache and TLB information -/

/-- `Fn8000_0005_EAX` L1 TLB 2M/4M Information (R216). -/
def fn8000_0005_EAX (cfg : Cfg) (_env : Env) (_sub : Word) : Register :=
  [ ⟨31, 24, cfg.Fn8000_0005_EAX.L1DTlb2and4MAssoc⟩, ⟨23, 16, cfg.Fn8000_0005_EAX.L1DTlb2and4MSize⟩,
      ⟨15, 8, cfg.Fn8000_0005_EAX.L1ITlb2and4MAssoc⟩, ⟨7, 0, cfg.Fn8000_0005_EAX.L1ITlb2and4MSize⟩ ]

/-- `Fn8000_0005_EBX` L1 TLB 4K Information (R217). -/
def fn8000_0005_EBX (cfg : Cfg) (_env : Env) (_sub : Word) : Register :=
  [ ⟨31, 24, cfg.Fn8000_0005_EBX.L1DTlb4KAssoc⟩, ⟨23, 16, cfg.Fn8000_0005_EBX.L1DTlb4KSize⟩,
      ⟨15, 8, cfg.Fn8000_0005_EBX.L1ITlb4KAssoc⟩, ⟨7, 0, cfg.Fn8000_0005_EBX.L1ITlb4KSize⟩ ]

/-- `Fn8000_0005_ECX` L1 Data Cache Information (R218). -/
def fn8000_0005_ECX (cfg : Cfg) (_env : Env) (_sub : Word) : Register :=
  [ ⟨31, 24, cfg.Fn8000_0005_ECX.L1DcSize⟩, ⟨23, 16, cfg.Fn8000_0005_ECX.L1DcAssoc⟩,
      ⟨15, 8, cfg.Fn8000_0005_ECX.L1DcLinesPerTag⟩, ⟨7, 0, cfg.Fn8000_0005_ECX.L1DcLineSize⟩ ]

/-- `Fn8000_0005_EDX` L1 Instruction Cache Information (R219). -/
def fn8000_0005_EDX (cfg : Cfg) (_env : Env) (_sub : Word) : Register :=
  [ ⟨31, 24, cfg.Fn8000_0005_EDX.L1IcSize⟩, ⟨23, 16, cfg.Fn8000_0005_EDX.L1IcAssoc⟩,
      ⟨15, 8, cfg.Fn8000_0005_EDX.L1IcLinesPerTag⟩, ⟨7, 0, cfg.Fn8000_0005_EDX.L1IcLineSize⟩ ]

/-- Function 8000_0005h: L1 cache and TLB information (R216 to R219). -/
def leaf8000_0005 (cfg : Cfg) (env : Env) (sub : Word) : Entry :=
  { eax := fn8000_0005_EAX cfg env sub,
    ebx := fn8000_0005_EBX cfg env sub,
    ecx := fn8000_0005_ECX cfg env sub,
    edx := fn8000_0005_EDX cfg env sub }

/-! ## Function 8000_0006h: L2 cache and TLB and L3 cache information -/

/-- `Fn8000_0006_EAX` L2 TLB 2M/4M Information (R223). -/
def fn8000_0006_EAX (cfg : Cfg) (_env : Env) (_sub : Word) : Register :=
  [ ⟨31, 28, cfg.Fn8000_0006_EAX.L2DTlb2and4MAssoc⟩, ⟨27, 16, cfg.Fn8000_0006_EAX.L2DTlb2and4MSize⟩,
      ⟨15, 12, cfg.Fn8000_0006_EAX.L2ITlb2and4MAssoc⟩, ⟨11, 0, cfg.Fn8000_0006_EAX.L2ITlb2and4MSize⟩ ]

/-- `Fn8000_0006_EBX` L2 TLB 4K Information (R224). -/
def fn8000_0006_EBX (cfg : Cfg) (_env : Env) (_sub : Word) : Register :=
  [ ⟨31, 28, cfg.Fn8000_0006_EBX.L2DTlb4KAssoc⟩, ⟨27, 16, cfg.Fn8000_0006_EBX.L2DTlb4KSize⟩,
      ⟨15, 12, cfg.Fn8000_0006_EBX.L2ITlb4KAssoc⟩, ⟨11, 0, cfg.Fn8000_0006_EBX.L2ITlb4KSize⟩ ]

/-- `Fn8000_0006_ECX` L2 Cache Information (R225). -/
def fn8000_0006_ECX (cfg : Cfg) (_env : Env) (_sub : Word) : Register :=
  [ ⟨31, 16, cfg.Fn8000_0006_ECX.L2Size⟩, ⟨15, 12, cfg.Fn8000_0006_ECX.L2Assoc⟩,
      ⟨11, 8, cfg.Fn8000_0006_ECX.L2LinesPerTag⟩, ⟨7, 0, cfg.Fn8000_0006_ECX.L2LineSize⟩ ]

/-- `Fn8000_0006_EDX` L3 Cache Information (R226). -/
def fn8000_0006_EDX (cfg : Cfg) (_env : Env) (_sub : Word) : Register :=
  [ ⟨31, 18, cfg.Fn8000_0006_EDX.L3Size⟩, ⟨15, 12, cfg.Fn8000_0006_EDX.L3Assoc⟩,
      ⟨11, 8, cfg.Fn8000_0006_EDX.L3LinesPerTag⟩, ⟨7, 0, cfg.Fn8000_0006_EDX.L3LineSize⟩ ]

/-- Function 8000_0006h: L2 cache and TLB and L3 cache information (R223 to R226). -/
def leaf8000_0006 (cfg : Cfg) (env : Env) (sub : Word) : Entry :=
  { eax := fn8000_0006_EAX cfg env sub,
    ebx := fn8000_0006_EBX cfg env sub,
    ecx := fn8000_0006_ECX cfg env sub,
    edx := fn8000_0006_EDX cfg env sub }

/-! ## Function 8000_0007h: processor power management and RAS capabilities -/

/-- `Fn8000_0007_EBX` RAS Capabilities (R231). -/
def fn8000_0007_EBX (cfg : Cfg) (_env : Env) (_sub : Word) : Register :=
  [ ⟨3, 3, cfg.Fn8000_0007_EBX.ScalableMca⟩, ⟨2, 2, cfg.Fn8000_0007_EBX.HWA⟩, ⟨1, 1, cfg.Fn8000_0007_EBX.SUCCOR⟩,
      ⟨0, 0, cfg.Fn8000_0007_EBX.McaOverflowRecov⟩ ]

/-- `Fn8000_0007_ECX` Processor Power Monitoring Interface (R232). -/
def fn8000_0007_ECX (cfg : Cfg) (_env : Env) (_sub : Word) : Register :=
  [ ⟨31, 0, cfg.Fn8000_0007_ECX.CpuPwrSampleTimeRatio⟩ ]

/-- `Fn8000_0007_EDX` Advanced Power Management Features (R233). -/
def fn8000_0007_EDX (cfg : Cfg) (_env : Env) (_sub : Word) : Register :=
  [ ⟨12, 12, cfg.Fn8000_0007_EDX.ProcPowerReporting⟩, ⟨11, 11, cfg.Fn8000_0007_EDX.ProcFeedbackInterface⟩,
      ⟨10, 10, cfg.Fn8000_0007_EDX.EffFreqRO⟩, ⟨9, 9, cfg.Fn8000_0007_EDX.CPB⟩,
      ⟨8, 8, cfg.Fn8000_0007_EDX.TscInvariant⟩, ⟨7, 7, cfg.Fn8000_0007_EDX.HwPstate⟩,
      ⟨6, 6, cfg.Fn8000_0007_EDX._100MHzSteps⟩, ⟨4, 4, cfg.Fn8000_0007_EDX.TM⟩, ⟨3, 3, cfg.Fn8000_0007_EDX.TTP⟩,
      ⟨2, 2, cfg.Fn8000_0007_EDX.VID⟩, ⟨1, 1, cfg.Fn8000_0007_EDX.FID⟩, ⟨0, 0, cfg.Fn8000_0007_EDX.TS⟩ ]

/-- Function 8000_0007h: processor power management and RAS capabilities (R230 to R233). -/
def leaf8000_0007 (cfg : Cfg) (env : Env) (sub : Word) : Entry :=
  { eax := reserved /- R230 -/,
    ebx := fn8000_0007_EBX cfg env sub,
    ecx := fn8000_0007_ECX cfg env sub,
    edx := fn8000_0007_EDX cfg env sub }

/-! ## Function 8000_0008h: processor capacity parameters and extended feature identification -/

/-- `Fn8000_0008_EAX` Long Mode Size Identifiers (R236). -/
def fn8000_0008_EAX (cfg : Cfg) (_env : Env) (_sub : Word) : Register :=
  [ ⟨23, 16, cfg.Fn8000_0008_EAX.GuestPhysAddrSize⟩, ⟨15, 8, cfg.Fn8000_0008_EAX.LinAddrSize⟩,
      ⟨7, 0, cfg.Fn8000_0008_EAX.PhysAddrSize⟩ ]

/-- `Fn8000_0008_EBX` Extended Feature Identifiers (R237). -/
def fn8000_0008_EBX (cfg : Cfg) (_env : Env) (_sub : Word) : Register :=
  [ ⟨30, 30, cfg.Fn8000_0008_EBX.IBPB_RET⟩, ⟨29, 29, cfg.Fn8000_0008_EBX.BTC_NO⟩,
      ⟨28, 28, cfg.Fn8000_0008_EBX.PSFD⟩, ⟨27, 27, cfg.Fn8000_0008_EBX.CPPC⟩,
      ⟨26, 26, cfg.Fn8000_0008_EBX.SsbdNotRequired⟩, ⟨25, 25, cfg.Fn8000_0008_EBX.SsbdVirtSpecCtrl⟩,
      ⟨24, 24, cfg.Fn8000_0008_EBX.SSBD⟩, ⟨21, 21, cfg.Fn8000_0008_EBX.INVLPGBnestedPages⟩,
      ⟨20, 20, cfg.Fn8000_0008_EBX.EferLmsleUnsupported⟩, ⟨19, 19, cfg.Fn8000_0008_EBX.IbrsSameMode⟩,
      ⟨18, 18, cfg.Fn8000_0008_EBX.IbrsPreferred⟩, ⟨17, 17, cfg.Fn8000_0008_EBX.StibpAlwaysOn⟩,
      ⟨16, 16, cfg.Fn8000_0008_EBX.IbrsAlwaysOn⟩, ⟨15, 15, cfg.Fn8000_0008_EBX.STIBP⟩,
      ⟨14, 14, cfg.Fn8000_0008_EBX.IBRS⟩, ⟨13, 13, cfg.Fn8000_0008_EBX.INT_WBINVD⟩,
      ⟨12, 12, cfg.Fn8000_0008_EBX.IBPB⟩, ⟨9, 9, cfg.Fn8000_0008_EBX.WBNOINVD⟩,
      ⟨8, 8, cfg.Fn8000_0008_EBX.MCOMMIT⟩, ⟨6, 6, cfg.Fn8000_0008_EBX.BE⟩, ⟨4, 4, cfg.Fn8000_0008_EBX.RDPRU⟩,
      ⟨3, 3, cfg.Fn8000_0008_EBX.INVLPGB⟩, ⟨2, 2, cfg.Fn8000_0008_EBX.RstrFpErrPtrs⟩,
      ⟨1, 1, cfg.Fn8000_0008_EBX.InstRetCntMsr⟩, ⟨0, 0, cfg.Fn8000_0008_EBX.CLZERO⟩ ]

/-- `Fn8000_0008_ECX` Size Identifiers (R238). -/
def fn8000_0008_ECX (cfg : Cfg) (_env : Env) (_sub : Word) : Register :=
  [ ⟨17, 16, cfg.Fn8000_0008_ECX.PerfTscSize⟩, ⟨15, 12, cfg.Fn8000_0008_ECX.ApicIdSize⟩,
      ⟨7, 0, cfg.Fn8000_0008_ECX.NC⟩ ]

/-- `Fn8000_0008_EDX` RDPRU Register Identifier Range (R239). -/
def fn8000_0008_EDX (cfg : Cfg) (_env : Env) (_sub : Word) : Register :=
  [ ⟨31, 16, cfg.Fn8000_0008_EDX.MaxRdpruID⟩, ⟨15, 0, cfg.Fn8000_0008_EDX.InvlpgbCountMax⟩ ]

/-- Function 8000_0008h: processor capacity parameters and extended feature identification (R236 to R239). -/
def leaf8000_0008 (cfg : Cfg) (env : Env) (sub : Word) : Entry :=
  { eax := fn8000_0008_EAX cfg env sub,
    ebx := fn8000_0008_EBX cfg env sub,
    ecx := fn8000_0008_ECX cfg env sub,
    edx := fn8000_0008_EDX cfg env sub }


end Sys2Proof.Machine
end

