-- ==== Sys2Proof/Machine/ExtFn1D.lean ====
section
/-! DEFINITION. Extended functions 8000_001Dh to 8000_0026h (45_ext_fn1D_to_fn26.md).

Function 8000_0024h is reserved (R324): `leafEntry` answers it with four draws. The gates of R280 and R290 are
`gateOpen`. -/

namespace Sys2Proof.Machine

/-! ## Function 8000_001Dh: cache topology information -/

/-- `Fn8000_001D_EAX_xn` Cache Properties, for `n < cfg.NumCaches` (R282). -/
def fn8000_001D_EAX_xn (_cfg : Cfg) (_env : Env) (_sub : Word) (c : Record.Cache) : Register :=
  [ ⟨25, 14, c.EAX.NumSharingCache⟩, ⟨9, 9, c.EAX.FullyAssociative⟩, ⟨8, 8, c.EAX.SelfInitialization⟩,
      ⟨7, 5, c.EAX.CacheLevel⟩, ⟨4, 0, c.EAX.CacheType⟩ ]

/-- `Fn8000_001D_EBX_xn` Cache Properties, for `n < cfg.NumCaches` (R283). -/
def fn8000_001D_EBX_xn (_cfg : Cfg) (_env : Env) (_sub : Word) (c : Record.Cache) : Register :=
  [ ⟨31, 22, c.EBX.CacheNumWays⟩, ⟨21, 12, c.EBX.CachePhysPartitions⟩, ⟨11, 0, c.EBX.CacheLineSize⟩ ]

/-- `Fn8000_001D_ECX_xn` Cache Properties, for `n < cfg.NumCaches` (R284). -/
def fn8000_001D_ECX_xn (_cfg : Cfg) (_env : Env) (_sub : Word) (c : Record.Cache) : Register :=
  Field.onlyIf (c.EAX.FullyAssociative == 0) ⟨31, 0, c.ECX.CacheNumSets⟩

/-- `Fn8000_001D_EDX_xn` Cache Properties, for `n < cfg.NumCaches` (R285). -/
def fn8000_001D_EDX_xn (_cfg : Cfg) (_env : Env) (_sub : Word) (c : Record.Cache) : Register :=
  [ ⟨1, 1, c.EDX.CacheInclusive⟩, ⟨0, 0, c.EDX.WBINVD⟩ ]

/-- The properties of one cache (R282 to R285). -/
def leaf8000_001D_cache (cfg : Cfg) (env : Env) (sub : Word) (c : Record.Cache) : Entry :=
  { eax := fn8000_001D_EAX_xn cfg env sub c,
    ebx := fn8000_001D_EBX_xn cfg env sub c,
    ecx := fn8000_001D_ECX_xn cfg env sub c,
    edx := fn8000_001D_EDX_xn cfg env sub c }

/-- The Null cache (R287, decision D23): CacheType is 0, the rest is not stated. -/
def leaf8000_001D_null : Entry :=
  { eax := [⟨4, 0, 0⟩], ebx := reserved, ecx := reserved, edx := reserved }

/-- Function 8000_001Dh (R280), its gate open: the cache that ECX selects, or the Null cache. -/
def leaf8000_001D (cfg : Cfg) (env : Env) (sub : Word) : Entry :=
  match cfg.Fn8000_001D_x[sub.toNat]? with
  | some c => leaf8000_001D_cache cfg env sub c
  | none => leaf8000_001D_null

/-! ## Function 8000_001Eh: processor topology information -/

/-- `Fn8000_001E_EAX` Extended APIC ID (R291). -/
def fn8000_001E_EAX (cfg : Cfg) (env : Env) (_sub : Word) : Register :=
  Field.onlyIf (env.ApicEn == 1) ⟨31, 0, cfg.Fn8000_001E_EAX.ExtendedApicId⟩

/-- `Fn8000_001E_EBX` Compute Unit Identifiers (R292). -/
def fn8000_001E_EBX (cfg : Cfg) (_env : Env) (_sub : Word) : Register :=
  [ ⟨15, 8, cfg.Fn8000_001E_EBX.ThreadsPerComputeUnit⟩, ⟨7, 0, cfg.Fn8000_001E_EBX.ComputeUnitId⟩ ]

/-- `Fn8000_001E_ECX` Node Identifiers (R293). -/
def fn8000_001E_ECX (cfg : Cfg) (_env : Env) (_sub : Word) : Register :=
  [ ⟨10, 8, cfg.Fn8000_001E_ECX.NodesPerProcessor⟩, ⟨7, 0, cfg.Fn8000_001E_ECX.NodeId⟩ ]

/-- Function 8000_001Eh: processor topology information (R291 to R294, its gate of R290 open). -/
def leaf8000_001E (cfg : Cfg) (env : Env) (sub : Word) : Entry :=
  { eax := fn8000_001E_EAX cfg env sub,
    ebx := fn8000_001E_EBX cfg env sub,
    ecx := fn8000_001E_ECX cfg env sub,
    edx := reserved /- R294 -/ }

/-! ## Function 8000_001Fh: SEV capabilities -/

/-- `Fn8000_001F_EAX` SEV Capabilities (R296). -/
def fn8000_001F_EAX (cfg : Cfg) (_env : Env) (_sub : Word) : Register :=
  [ ⟨31, 31, cfg.Fn8000_001F_EAX.IbpbOnEntry⟩, ⟨30, 30, cfg.Fn8000_001F_EAX.HvInUseWrAllowed⟩,
      ⟨29, 29, cfg.Fn8000_001F_EAX.NestedVirtSnpMsr⟩, ⟨28, 28, cfg.Fn8000_001F_EAX.SvsmCommPageMsr⟩,
      ⟨27, 27, cfg.Fn8000_001F_EAX.AllowedSevFeatures⟩, ⟨26, 26, cfg.Fn8000_001F_EAX.SecureAvic⟩,
      ⟨25, 25, cfg.Fn8000_001F_EAX.SmtProtection⟩, ⟨24, 24, cfg.Fn8000_001F_EAX.VmsaRegProt⟩,
      ⟨23, 23, cfg.Fn8000_001F_EAX.SegmentedRmp⟩, ⟨22, 22, cfg.Fn8000_001F_EAX.GuestInterceptCtl⟩,
      ⟨21, 21, cfg.Fn8000_001F_EAX.RMPREAD⟩, ⟨20, 20, cfg.Fn8000_001F_EAX.PmcVirtGuestCtl⟩,
      ⟨19, 19, cfg.Fn8000_001F_EAX.IbsVirtGuestCtl⟩, ⟨18, 18, cfg.Fn8000_001F_EAX.VirtualTomMsr⟩,
      ⟨17, 17, cfg.Fn8000_001F_EAX.VmgexitParameter⟩, ⟨16, 16, cfg.Fn8000_001F_EAX.VTE⟩,
      ⟨15, 15, cfg.Fn8000_001F_EAX.PreventHostIbs⟩, ⟨14, 14, cfg.Fn8000_001F_EAX.DebugVirt⟩,
      ⟨13, 13, cfg.Fn8000_001F_EAX.AlternateInjection⟩, ⟨12, 12, cfg.Fn8000_001F_EAX.RestrictedInjection⟩,
      ⟨11, 11, cfg.Fn8000_001F_EAX._64BitHost⟩, ⟨10, 10, cfg.Fn8000_001F_EAX.HwEnfCacheCoh⟩,
      ⟨9, 9, cfg.Fn8000_001F_EAX.TscAuxVirtualization⟩, ⟨8, 8, cfg.Fn8000_001F_EAX.SecureTsc⟩,
      ⟨7, 7, cfg.Fn8000_001F_EAX.VmplSSS⟩, ⟨6, 6, cfg.Fn8000_001F_EAX.RMPQUERY⟩,
      ⟨5, 5, cfg.Fn8000_001F_EAX.VMPL⟩, ⟨4, 4, cfg.Fn8000_001F_EAX.SEV_SNP⟩, ⟨3, 3, cfg.Fn8000_001F_EAX.SEV_ES⟩,
      ⟨2, 2, cfg.Fn8000_001F_EAX.PageFlushMsr⟩, ⟨1, 1, cfg.Fn8000_001F_EAX.SEV⟩, ⟨0, 0, cfg.Fn8000_001F_EAX.SME⟩ ]

/-- `Fn8000_001F_EBX` SEV Capabilities (R297). -/
def fn8000_001F_EBX (cfg : Cfg) (_env : Env) (_sub : Word) : Register :=
  [ ⟨15, 12, cfg.Fn8000_001F_EBX.NumVMPL⟩, ⟨11, 6, cfg.Fn8000_001F_EBX.PhysAddrReduction⟩,
      ⟨5, 0, cfg.Fn8000_001F_EBX.CbitPosition⟩ ]

/-- `Fn8000_001F_ECX` SEV Capabilities (R298). -/
def fn8000_001F_ECX (cfg : Cfg) (_env : Env) (_sub : Word) : Register :=
  [ ⟨31, 0, cfg.Fn8000_001F_ECX.NumEncryptedGuests⟩ ]

/-- `Fn8000_001F_EDX` Minimum ASID (R299). -/
def fn8000_001F_EDX (cfg : Cfg) (_env : Env) (_sub : Word) : Register :=
  [ ⟨31, 0, cfg.Fn8000_001F_EDX.MinSevNoEsAsid⟩ ]

/-- Function 8000_001Fh: SEV capabilities (R295 to R299). -/
def leaf8000_001F (cfg : Cfg) (env : Env) (sub : Word) : Entry :=
  { eax := fn8000_001F_EAX cfg env sub,
    ebx := fn8000_001F_EBX cfg env sub,
    ecx := fn8000_001F_ECX cfg env sub,
    edx := fn8000_001F_EDX cfg env sub }

/-! ## Function 8000_0020h: PQOS extended features -/

/-- `Fn8000_0020_EBX_x0` PQOS Extended Features (R301). -/
def fn8000_0020_EBX_x0 (cfg : Cfg) (_env : Env) (_sub : Word) : Register :=
  [ ⟨6, 6, cfg.Fn8000_0020_EBX_x0.SDCIAE⟩, ⟨5, 5, cfg.Fn8000_0020_EBX_x0.ABMC⟩,
      ⟨4, 4, cfg.Fn8000_0020_EBX_x0.L3RR⟩, ⟨3, 3, cfg.Fn8000_0020_EBX_x0.BMEC⟩,
      ⟨2, 2, cfg.Fn8000_0020_EBX_x0.L3SMBE⟩, ⟨1, 1, cfg.Fn8000_0020_EBX_x0.L3MBE⟩ ]

/-- `Fn8000_0020_EAX_x1` L3 Memory Bandwidth Enforcement Information (R302). -/
def fn8000_0020_EAX_x1 (cfg : Cfg) (_env : Env) (_sub : Word) : Register :=
  [ ⟨31, 0, cfg.Fn8000_0020_EAX_x1.BW_LEN⟩ ]

/-- `Fn8000_0020_EDX_x1` L3 Memory Bandwidth Enforcement Information (R302). -/
def fn8000_0020_EDX_x1 (cfg : Cfg) (_env : Env) (_sub : Word) : Register :=
  [ ⟨31, 0, cfg.Fn8000_0020_EDX_x1.COS_MAX⟩ ]

/-- `Fn8000_0020_EAX_x2` L3 Slow Memory Bandwidth Enforcement Information (R303). -/
def fn8000_0020_EAX_x2 (cfg : Cfg) (_env : Env) (_sub : Word) : Register :=
  [ ⟨31, 0, cfg.Fn8000_0020_EAX_x2.BW_LEN⟩ ]

/-- `Fn8000_0020_EDX_x2` L3 Slow Memory Bandwidth Enforcement Information (R303). -/
def fn8000_0020_EDX_x2 (cfg : Cfg) (_env : Env) (_sub : Word) : Register :=
  [ ⟨31, 0, cfg.Fn8000_0020_EDX_x2.COS_MAX⟩ ]

/-- `Fn8000_0020_EBX_x3` Bandwidth Monitoring Event Counters Information (R304). -/
def fn8000_0020_EBX_x3 (cfg : Cfg) (_env : Env) (_sub : Word) : Register :=
  [ ⟨7, 0, cfg.Fn8000_0020_EBX_x3.EVT_NUM⟩ ]

/-- `Fn8000_0020_ECX_x3` Bandwidth Monitoring Event Counters Information (R304). -/
def fn8000_0020_ECX_x3 (cfg : Cfg) (_env : Env) (_sub : Word) : Register :=
  [ ⟨6, 6, cfg.Fn8000_0020_ECX_x3.L3CacheVicMon⟩, ⟨5, 5, cfg.Fn8000_0020_ECX_x3.L3CacheRmtSlowBwFillMon⟩,
      ⟨4, 4, cfg.Fn8000_0020_ECX_x3.L3CacheLclSlowBwFillMon⟩, ⟨3, 3, cfg.Fn8000_0020_ECX_x3.L3CacheRmtBwNtWrMon⟩,
      ⟨2, 2, cfg.Fn8000_0020_ECX_x3.L3CacheLclBwNtWrMon⟩, ⟨1, 1, cfg.Fn8000_0020_ECX_x3.L3CacheRmtBwFillMon⟩,
      ⟨0, 0, cfg.Fn8000_0020_ECX_x3.L3CacheLclBwFillMon⟩ ]

/-- `Fn8000_0020_EAX_x5` Assignable Bandwidth Monitoring Counters Information (R305). -/
def fn8000_0020_EAX_x5 (cfg : Cfg) (_env : Env) (_sub : Word) : Register :=
  [ ⟨8, 8, cfg.Fn8000_0020_EAX_x5.OverflowBit⟩, ⟨7, 0, cfg.Fn8000_0020_EAX_x5.CounterSize⟩ ]

/-- `Fn8000_0020_EBX_x5` Assignable Bandwidth Monitoring Counters Information (R305). -/
def fn8000_0020_EBX_x5 (cfg : Cfg) (_env : Env) (_sub : Word) : Register :=
  [ ⟨15, 0, cfg.Fn8000_0020_EBX_x5.MAX_ABMC⟩ ]

/-- `Fn8000_0020_ECX_x5` Assignable Bandwidth Monitoring Counters Information (R305). -/
def fn8000_0020_ECX_x5 (cfg : Cfg) (_env : Env) (_sub : Word) : Register :=
  [ ⟨0, 0, cfg.Fn8000_0020_ECX_x5.Select_COS⟩ ]

/-- PQOS extended features (R301). -/
def leaf8000_0020_x0 (cfg : Cfg) (env : Env) (sub : Word) : Entry :=
  { eax := reserved /- R301 -/,
    ebx := fn8000_0020_EBX_x0 cfg env sub,
    ecx := reserved /- R301 -/,
    edx := reserved /- R301 -/ }

/-- L3 memory bandwidth enforcement (R302). -/
def leaf8000_0020_x1 (cfg : Cfg) (env : Env) (sub : Word) : Entry :=
  { eax := fn8000_0020_EAX_x1 cfg env sub,
    ebx := reserved /- R302 -/,
    ecx := reserved /- R302 -/,
    edx := fn8000_0020_EDX_x1 cfg env sub }

/-- L3 slow memory bandwidth enforcement (R303). -/
def leaf8000_0020_x2 (cfg : Cfg) (env : Env) (sub : Word) : Entry :=
  { eax := fn8000_0020_EAX_x2 cfg env sub,
    ebx := reserved /- R303 -/,
    ecx := reserved /- R303 -/,
    edx := fn8000_0020_EDX_x2 cfg env sub }

/-- Bandwidth monitoring event counters (R304). -/
def leaf8000_0020_x3 (cfg : Cfg) (env : Env) (sub : Word) : Entry :=
  { eax := reserved /- R304 -/,
    ebx := fn8000_0020_EBX_x3 cfg env sub,
    ecx := fn8000_0020_ECX_x3 cfg env sub,
    edx := reserved /- R304 -/ }

/-- Assignable bandwidth monitoring counters (R305). -/
def leaf8000_0020_x5 (cfg : Cfg) (env : Env) (sub : Word) : Entry :=
  { eax := fn8000_0020_EAX_x5 cfg env sub,
    ebx := fn8000_0020_EBX_x5 cfg env sub,
    ecx := fn8000_0020_ECX_x5 cfg env sub,
    edx := reserved /- R305 -/ }

/-- Function 8000_0020h (R300): subfunctions 1, 2, 3 and 5 are gated by bits of subfunction 0, and every other
subfunction above 0 is four draws (R306, decision D11). -/
def leaf8000_0020 (cfg : Cfg) (env : Env) (sub : Word) : Entry :=
  if sub = 0 then leaf8000_0020_x0 cfg env sub
  else if sub = 1 then if cfg.Fn8000_0020_EBX_x0.L3MBE = 0 then .draws4 else leaf8000_0020_x1 cfg env sub
  else if sub = 2 then if cfg.Fn8000_0020_EBX_x0.L3SMBE = 0 then .draws4 else leaf8000_0020_x2 cfg env sub
  else if sub = 3 then if cfg.Fn8000_0020_EBX_x0.BMEC = 0 then .draws4 else leaf8000_0020_x3 cfg env sub
  else if sub = 5 then if cfg.Fn8000_0020_EBX_x0.ABMC = 0 then .draws4 else leaf8000_0020_x5 cfg env sub
  else .draws4

/-! ## Function 8000_0021h: extended feature identification 2 -/

/-- `Fn8000_0021_EAX` Extended Feature 2 (R310). -/
def fn8000_0021_EAX (cfg : Cfg) (_env : Env) (_sub : Word) : Register :=
  [ ⟨31, 31, cfg.Fn8000_0021_EAX.SRSO_MSR_FIX⟩, ⟨30, 30, cfg.Fn8000_0021_EAX.SRSO_USER_KERNEL_NO⟩,
      ⟨29, 29, cfg.Fn8000_0021_EAX.SRSO_NO⟩, ⟨28, 28, cfg.Fn8000_0021_EAX.IBPB_BRTYPE⟩,
      ⟨27, 27, cfg.Fn8000_0021_EAX.SBPB⟩, ⟨24, 24, cfg.Fn8000_0021_EAX.ERAPS⟩,
      ⟨21, 21, cfg.Fn8000_0021_EAX.FP512_DOWNGRADE⟩, ⟨20, 20, cfg.Fn8000_0021_EAX.PREFETCHI⟩,
      ⟨19, 19, cfg.Fn8000_0021_EAX.FAST_REP_SCASB⟩, ⟨18, 18, cfg.Fn8000_0021_EAX.EPSF⟩,
      ⟨17, 17, cfg.Fn8000_0021_EAX.CpuidUserDis⟩, ⟨16, 16, cfg.Fn8000_0021_EAX.Opcode0F017Reclaim⟩,
      ⟨15, 15, cfg.Fn8000_0021_EAX.AMD_ERMSB⟩, ⟨14, 14, cfg.Fn8000_0021_EAX.L2TlbSizeX32⟩,
      ⟨13, 13, cfg.Fn8000_0021_EAX.PrefetchCtlMsr⟩, ⟨12, 12, cfg.Fn8000_0021_EAX.Pmc2PreciseRetire⟩,
      ⟨11, 11, cfg.Fn8000_0021_EAX.FastShortRepeCmpsbs⟩, ⟨10, 10, cfg.Fn8000_0021_EAX.FastShortRepStosb⟩,
      ⟨9, 9, cfg.Fn8000_0021_EAX.NoSmmCtlMSR⟩, ⟨8, 8, cfg.Fn8000_0021_EAX.AutomaticIBRS⟩,
      ⟨7, 7, cfg.Fn8000_0021_EAX.UpperAddressIgnore⟩, ⟨6, 6, cfg.Fn8000_0021_EAX.NullSelectClearsBase⟩,
      ⟨3, 3, cfg.Fn8000_0021_EAX.SmmPgCfgLock⟩, ⟨2, 2, cfg.Fn8000_0021_EAX.LFenceAlwaysSerializing⟩,
      ⟨1, 1, cfg.Fn8000_0021_EAX.FsGsBaseWriteNotSerializing⟩, ⟨0, 0, cfg.Fn8000_0021_EAX.NoNestedDataBp⟩ ]

/-- `Fn8000_0021_EBX` Extended Feature 2 (R311). -/
def fn8000_0021_EBX (cfg : Cfg) (_env : Env) (_sub : Word) : Register :=
  [ ⟨23, 16, cfg.Fn8000_0021_EBX.RapSize⟩, ⟨15, 0, cfg.Fn8000_0021_EBX.MicrocodePatchSize⟩ ]

/-- Function 8000_0021h: extended feature identification 2 (R310 to R312). -/
def leaf8000_0021 (cfg : Cfg) (env : Env) (sub : Word) : Entry :=
  { eax := fn8000_0021_EAX cfg env sub,
    ebx := fn8000_0021_EBX cfg env sub,
    ecx := reserved /- R312 -/,
    edx := reserved /- R312 -/ }

/-! ## Function 8000_0022h: extended performance monitoring and debug -/

/-- `Fn8000_0022_EAX` Extended Performance Monitoring and Debug (R315). -/
def fn8000_0022_EAX (cfg : Cfg) (_env : Env) (_sub : Word) : Register :=
  [ ⟨2, 2, cfg.Fn8000_0022_EAX.LbrAndPmcFreeze⟩, ⟨1, 1, cfg.Fn8000_0022_EAX.LbrStack⟩,
      ⟨0, 0, cfg.Fn8000_0022_EAX.PerfMonV2⟩ ]

/-- `Fn8000_0022_EBX` Extended Performance Monitoring and Debug (R316). -/
def fn8000_0022_EBX (cfg : Cfg) (_env : Env) (_sub : Word) : Register :=
  [ ⟨15, 10, cfg.Fn8000_0022_EBX.NumPerfCtrNB⟩, ⟨9, 4, cfg.Fn8000_0022_EBX.LbrStackSize⟩,
      ⟨3, 0, cfg.Fn8000_0022_EBX.NumPerfCtrCore⟩ ]

/-- Function 8000_0022h: extended performance monitoring and debug (R315 to R317). -/
def leaf8000_0022 (cfg : Cfg) (env : Env) (sub : Word) : Entry :=
  { eax := fn8000_0022_EAX cfg env sub,
    ebx := fn8000_0022_EBX cfg env sub,
    ecx := reserved /- R317 -/,
    edx := reserved /- R317 -/ }

/-! ## Function 8000_0023h: multi-key encrypted memory capabilities -/

/-- `Fn8000_0023_EAX` Secure Multi-Key Encryption (R320). -/
def fn8000_0023_EAX (cfg : Cfg) (_env : Env) (_sub : Word) : Register :=
  [ ⟨0, 0, cfg.Fn8000_0023_EAX.MemHmk⟩ ]

/-- `Fn8000_0023_EBX` Secure Multi-Key Encryption (R321). -/
def fn8000_0023_EBX (cfg : Cfg) (_env : Env) (_sub : Word) : Register :=
  [ ⟨15, 0, cfg.Fn8000_0023_EBX.MaxMemHmkEncrKeyID⟩ ]

/-- Function 8000_0023h: multi-key encrypted memory capabilities (R320 to R322). -/
def leaf8000_0023 (cfg : Cfg) (env : Env) (sub : Word) : Entry :=
  { eax := fn8000_0023_EAX cfg env sub,
    ebx := fn8000_0023_EBX cfg env sub,
    ecx := reserved /- R322 -/,
    edx := reserved /- R322 -/ }

/-! ## Function 8000_0025h: SEV capabilities 2 -/

/-- `Fn8000_0025_EAX` SEV Capabilities 2 (R325). -/
def fn8000_0025_EAX (cfg : Cfg) (_env : Env) (_sub : Word) : Register :=
  [ ⟨11, 6, cfg.Fn8000_0025_EAX.MaxRmpSegSize⟩, ⟨5, 0, cfg.Fn8000_0025_EAX.MinRmpSegSize⟩ ]

/-- `Fn8000_0025_EBX` SEV Capabilities 2 (R326). -/
def fn8000_0025_EBX (cfg : Cfg) (_env : Env) (_sub : Word) : Register :=
  [ ⟨10, 10, cfg.Fn8000_0025_EBX.NumSegReduction⟩, ⟨9, 0, cfg.Fn8000_0025_EBX.NumCachedSegments⟩ ]

/-- Function 8000_0025h: SEV capabilities 2 (R325 to R327). -/
def leaf8000_0025 (cfg : Cfg) (env : Env) (sub : Word) : Entry :=
  { eax := fn8000_0025_EAX cfg env sub,
    ebx := fn8000_0025_EBX cfg env sub,
    ecx := reserved /- R327 -/,
    edx := reserved /- R327 -/ }

/-! ## Function 8000_0026h: extended CPU topology -/

/-- `Fn8000_0026_EAX_xn` Extended CPU Topology, for `n < cfg.NumTopoLevels` (R332). -/
def fn8000_0026_EAX_xn (_cfg : Cfg) (_env : Env) (_sub : Word) (l : Record.Level) : Register :=
  [ ⟨31, 31, l.EAX.AsymmetricTopology⟩, ⟨30, 30, l.EAX.HeterogeneousCores⟩ ] ++
  Field.onlyIf (l.ECX.LevelType == 1) ⟨29, 29, l.EAX.EfficiencyRankingAvailable⟩ ++
  [ ⟨4, 0, l.EAX.MaskWidth⟩ ]

/-- `Fn8000_0026_EBX_xn` Extended CPU Topology, for `n < cfg.NumTopoLevels` (R333). -/
def fn8000_0026_EBX_xn (_cfg : Cfg) (_env : Env) (_sub : Word) (l : Record.Level) : Register :=
  Field.onlyIf (l.ECX.LevelType == 1) ⟨31, 28, l.EBX.CoreType⟩ ++
  Field.onlyIf (l.ECX.LevelType == 1) ⟨27, 24, l.EBX.NativeModelID⟩ ++
  Field.onlyIf (l.ECX.LevelType == 1) ⟨23, 16, l.EBX.PwrEfficiencyRanking⟩ ++
  [ ⟨15, 0, l.EBX.NumLogProc⟩ ]

/-- `Fn8000_0026_ECX_xn` Extended CPU Topology, for `n < cfg.NumTopoLevels` (R334). -/
def fn8000_0026_ECX_xn (_cfg : Cfg) (_env : Env) (sub : Word) (l : Record.Level) : Register :=
  [ ⟨15, 8, l.ECX.LevelType⟩, ⟨7, 0, inputEcx sub⟩ ]

/-- `Fn8000_0026_EDX_xn` Extended CPU Topology, for `n < cfg.NumTopoLevels` (R335). -/
def fn8000_0026_EDX_xn (cfg : Cfg) (_env : Env) (_sub : Word) (_l : Record.Level) : Register :=
  [ ⟨31, 0, cfg.Fn8000_0026_EDX.ExtendedApicId⟩ ]

/-- One hierarchy level (R332 to R335). -/
def leaf8000_0026_level (cfg : Cfg) (env : Env) (sub : Word) (l : Record.Level) : Entry :=
  { eax := fn8000_0026_EAX_xn cfg env sub l,
    ebx := fn8000_0026_EBX_xn cfg env sub l,
    ecx := fn8000_0026_ECX_xn cfg env sub l,
    edx := fn8000_0026_EDX_xn cfg env sub l }

/-- Past the last level (R337, decision D23): LevelType is 0 and InputEcx the echo; the rest is not stated. -/
def leaf8000_0026_end (sub : Word) : Entry :=
  { eax := reserved, ebx := reserved, ecx := [⟨15, 8, 0⟩, ⟨7, 0, inputEcx sub⟩], edx := reserved }

/-- Function 8000_0026h (R330): the level that ECX selects, or the end of the enumeration. -/
def leaf8000_0026 (cfg : Cfg) (env : Env) (sub : Word) : Entry :=
  match cfg.Fn8000_0026_x[sub.toNat]? with
  | some l => leaf8000_0026_level cfg env sub l
  | none => leaf8000_0026_end sub

end Sys2Proof.Machine
end

