-- ==== Sys2Proof/Machine/ExtFn9.lean ====
section
/-! DEFINITION. Extended functions 8000_0009h to 8000_001Ch (44_ext_fn9_to_fn1C.md).

Functions 8000_0009h and 8000_000Bh to 8000_0018h are reserved (R250): `leafEntry` answers them with four draws. The
gates of R251, R264 and R267 are `gateOpen`. -/

namespace Sys2Proof.Machine

/-! ## Function 8000_000Ah: SVM features -/

/-- `Fn8000_000A_EAX` SVM Revision and Feature Identification (R252). -/
def fn8000_000A_EAX (cfg : Cfg) (_env : Env) (_sub : Word) : Register :=
  [ ⟨7, 0, cfg.Fn8000_000A_EAX.SvmRev⟩ ]

/-- `Fn8000_000A_EBX` SVM Revision and Feature Identification (R253). -/
def fn8000_000A_EBX (cfg : Cfg) (_env : Env) (_sub : Word) : Register :=
  [ ⟨31, 0, cfg.Fn8000_000A_EBX.NASID⟩ ]

/-- `Fn8000_000A_ECX` SVM Feature Identification (R254). -/
def fn8000_000A_ECX (cfg : Cfg) (_env : Env) (_sub : Word) : Register :=
  [ ⟨6, 6, cfg.Fn8000_000A_ECX.x2AVIC_EXT⟩ ]

/-- `Fn8000_000A_EDX` SVM Feature Identification (R255). -/
def fn8000_000A_EDX (cfg : Cfg) (_env : Env) (_sub : Word) : Register :=
  [ ⟨30, 30, cfg.Fn8000_000A_EDX.IdleHltIntercept⟩, ⟨29, 29, cfg.Fn8000_000A_EDX.BusLockThreshold⟩,
      ⟨28, 28, cfg.Fn8000_000A_EDX.NestedVirtVmcbAddrChk⟩, ⟨27, 27, cfg.Fn8000_000A_EDX.ExtLvtAvicAccessChg⟩,
      ⟨26, 26, cfg.Fn8000_000A_EDX.IbsVirt⟩, ⟨25, 25, cfg.Fn8000_000A_EDX.VNMI⟩,
      ⟨24, 24, cfg.Fn8000_000A_EDX.TlbiCtl⟩, ⟨23, 23, cfg.Fn8000_000A_EDX.HOST_MCE_OVERRIDE⟩,
      ⟨21, 21, cfg.Fn8000_000A_EDX.ROGPT⟩, ⟨20, 20, cfg.Fn8000_000A_EDX.SpecCtrl⟩,
      ⟨19, 19, cfg.Fn8000_000A_EDX.SSSCheck⟩, ⟨18, 18, cfg.Fn8000_000A_EDX.x2AVIC⟩,
      ⟨17, 17, cfg.Fn8000_000A_EDX.GMET⟩, ⟨16, 16, cfg.Fn8000_000A_EDX.VGIF⟩,
      ⟨15, 15, cfg.Fn8000_000A_EDX.VMSAVEvirt⟩, ⟨13, 13, cfg.Fn8000_000A_EDX.AVIC⟩,
      ⟨12, 12, cfg.Fn8000_000A_EDX.PauseFilterThreshold⟩, ⟨10, 10, cfg.Fn8000_000A_EDX.PauseFilter⟩,
      ⟨8, 8, cfg.Fn8000_000A_EDX.PmcVirt⟩, ⟨7, 7, cfg.Fn8000_000A_EDX.DecodeAssists⟩,
      ⟨6, 6, cfg.Fn8000_000A_EDX.FlushByAsid⟩, ⟨5, 5, cfg.Fn8000_000A_EDX.VmcbClean⟩,
      ⟨4, 4, cfg.Fn8000_000A_EDX.TscRateMsr⟩, ⟨3, 3, cfg.Fn8000_000A_EDX.NRIPS⟩,
      ⟨2, 2, cfg.Fn8000_000A_EDX.SVML⟩, ⟨1, 1, cfg.Fn8000_000A_EDX.LbrVirt⟩, ⟨0, 0, cfg.Fn8000_000A_EDX.NP⟩ ]

/-- Function 8000_000Ah: SVM features (R252 to R255, its gate of R251 open). -/
def leaf8000_000A (cfg : Cfg) (env : Env) (sub : Word) : Entry :=
  { eax := fn8000_000A_EAX cfg env sub,
    ebx := fn8000_000A_EBX cfg env sub,
    ecx := fn8000_000A_ECX cfg env sub,
    edx := fn8000_000A_EDX cfg env sub }

/-! ## Function 8000_0019h: TLB characteristics for 1GB pages -/

/-- `Fn8000_0019_EAX` L1 TLB 1G Information (R257). -/
def fn8000_0019_EAX (cfg : Cfg) (_env : Env) (_sub : Word) : Register :=
  [ ⟨31, 28, cfg.Fn8000_0019_EAX.L1DTlb1GAssoc⟩, ⟨27, 16, cfg.Fn8000_0019_EAX.L1DTlb1GSize⟩,
      ⟨15, 12, cfg.Fn8000_0019_EAX.L1ITlb1GAssoc⟩, ⟨11, 0, cfg.Fn8000_0019_EAX.L1ITlb1GSize⟩ ]

/-- `Fn8000_0019_EBX` L2 TLB 1G Information (R258). -/
def fn8000_0019_EBX (cfg : Cfg) (_env : Env) (_sub : Word) : Register :=
  [ ⟨31, 28, cfg.Fn8000_0019_EBX.L2DTlb1GAssoc⟩, ⟨27, 16, cfg.Fn8000_0019_EBX.L2DTlb1GSize⟩,
      ⟨15, 12, cfg.Fn8000_0019_EBX.L2ITlb1GAssoc⟩, ⟨11, 0, cfg.Fn8000_0019_EBX.L2ITlb1GSize⟩ ]

/-- Function 8000_0019h: TLB characteristics for 1GB pages (R257 to R259). -/
def leaf8000_0019 (cfg : Cfg) (env : Env) (sub : Word) : Entry :=
  { eax := fn8000_0019_EAX cfg env sub,
    ebx := fn8000_0019_EBX cfg env sub,
    ecx := reserved /- R259 -/,
    edx := reserved /- R259 -/ }

/-! ## Function 8000_001Ah: instruction optimizations -/

/-- `Fn8000_001A_EAX` Performance Optimization Identifiers (R261). -/
def fn8000_001A_EAX (cfg : Cfg) (_env : Env) (_sub : Word) : Register :=
  [ ⟨2, 2, cfg.Fn8000_001A_EAX.FP256⟩, ⟨1, 1, cfg.Fn8000_001A_EAX.MOVU⟩, ⟨0, 0, cfg.Fn8000_001A_EAX.FP128⟩ ]

/-- Function 8000_001Ah: instruction optimizations (R261, R262). -/
def leaf8000_001A (cfg : Cfg) (env : Env) (sub : Word) : Entry :=
  { eax := fn8000_001A_EAX cfg env sub,
    ebx := reserved /- R262 -/,
    ecx := reserved /- R262 -/,
    edx := reserved /- R262 -/ }

/-! ## Function 8000_001Bh: instruction-based sampling capabilities -/

/-- `Fn8000_001B_EAX` Instruction-Based Sampling Feature Indicators (R265). -/
def fn8000_001B_EAX (cfg : Cfg) (_env : Env) (_sub : Word) : Register :=
  [ ⟨11, 11, cfg.Fn8000_001B_EAX.IbsL3MissFiltering⟩, ⟨8, 8, cfg.Fn8000_001B_EAX.OpBrnFuse⟩,
      ⟨7, 7, cfg.Fn8000_001B_EAX.RipInvalidChk⟩, ⟨6, 6, cfg.Fn8000_001B_EAX.OpCntExt⟩,
      ⟨5, 5, cfg.Fn8000_001B_EAX.BrnTrgt⟩, ⟨4, 4, cfg.Fn8000_001B_EAX.OpCnt⟩,
      ⟨3, 3, cfg.Fn8000_001B_EAX.RdWrOpCnt⟩, ⟨2, 2, cfg.Fn8000_001B_EAX.OpSam⟩,
      ⟨1, 1, cfg.Fn8000_001B_EAX.FetchSam⟩, ⟨0, 0, cfg.Fn8000_001B_EAX.IBSFFV⟩ ]

/-- Function 8000_001Bh: instruction-based sampling capabilities (R265, R266, its gate of R264 open). -/
def leaf8000_001B (cfg : Cfg) (env : Env) (sub : Word) : Entry :=
  { eax := fn8000_001B_EAX cfg env sub,
    ebx := reserved /- R266 -/,
    ecx := reserved /- R266 -/,
    edx := reserved /- R266 -/ }

/-! ## Function 8000_001Ch: lightweight profiling capabilities -/

/-- `Fn8000_001C_EAX` Lightweight Profiling Capabilities 0 (R268). -/
def fn8000_001C_EAX (cfg : Cfg) (_env : Env) (_sub : Word) : Register :=
  [ ⟨31, 31, cfg.Fn8000_001C_EAX.LwpInt⟩, ⟨30, 30, cfg.Fn8000_001C_EAX.LwpPTSC⟩,
      ⟨29, 29, cfg.Fn8000_001C_EAX.LwpCont⟩, ⟨6, 6, cfg.Fn8000_001C_EAX.LwpRNH⟩,
      ⟨5, 5, cfg.Fn8000_001C_EAX.LwpCNH⟩, ⟨4, 4, cfg.Fn8000_001C_EAX.LwpDME⟩, ⟨3, 3, cfg.Fn8000_001C_EAX.LwpBRE⟩,
      ⟨2, 2, cfg.Fn8000_001C_EAX.LwpIRE⟩, ⟨1, 1, cfg.Fn8000_001C_EAX.LwpVAL⟩,
      ⟨0, 0, cfg.Fn8000_001C_EAX.LwpAvail⟩ ]

/-- `Fn8000_001C_EBX` Lightweight Profiling Capabilities 0 (R269). -/
def fn8000_001C_EBX (cfg : Cfg) (_env : Env) (_sub : Word) : Register :=
  [ ⟨31, 24, cfg.Fn8000_001C_EBX.LwpEventOffset⟩, ⟨23, 16, cfg.Fn8000_001C_EBX.LwpMaxEvents⟩,
      ⟨15, 8, cfg.Fn8000_001C_EBX.LwpEventSize⟩, ⟨7, 0, cfg.Fn8000_001C_EBX.LwpCbSize⟩ ]

/-- `Fn8000_001C_ECX` Lightweight Profiling Capabilities 0 (R270). -/
def fn8000_001C_ECX (cfg : Cfg) (_env : Env) (_sub : Word) : Register :=
  [ ⟨31, 31, cfg.Fn8000_001C_ECX.LwpCacheLatency⟩, ⟨30, 30, cfg.Fn8000_001C_ECX.LwpCacheLevels⟩,
      ⟨29, 29, cfg.Fn8000_001C_ECX.LwpIpFiltering⟩, ⟨28, 28, cfg.Fn8000_001C_ECX.LwpBranchPrediction⟩,
      ⟨23, 16, cfg.Fn8000_001C_ECX.LwpMinBufferSize⟩, ⟨15, 9, cfg.Fn8000_001C_ECX.LwpVersion⟩,
      ⟨8, 6, cfg.Fn8000_001C_ECX.LwpLatencyRnd⟩, ⟨5, 5, cfg.Fn8000_001C_ECX.LwpDataAddress⟩,
      ⟨4, 0, cfg.Fn8000_001C_ECX.LwpLatencyMax⟩ ]

/-- `Fn8000_001C_EDX` Lightweight Profiling Capabilities 0 (R271). -/
def fn8000_001C_EDX (cfg : Cfg) (_env : Env) (_sub : Word) : Register :=
  [ ⟨31, 31, cfg.Fn8000_001C_EDX.LwpInt⟩, ⟨30, 30, cfg.Fn8000_001C_EDX.LwpPTSC⟩,
      ⟨29, 29, cfg.Fn8000_001C_EDX.LwpCont⟩, ⟨6, 6, cfg.Fn8000_001C_EDX.LwpRNH⟩,
      ⟨5, 5, cfg.Fn8000_001C_EDX.LwpCNH⟩, ⟨4, 4, cfg.Fn8000_001C_EDX.LwpDME⟩, ⟨3, 3, cfg.Fn8000_001C_EDX.LwpBRE⟩,
      ⟨2, 2, cfg.Fn8000_001C_EDX.LwpIRE⟩, ⟨1, 1, cfg.Fn8000_001C_EDX.LwpVAL⟩,
      ⟨0, 0, cfg.Fn8000_001C_EDX.LwpAvail⟩ ]

/-- Function 8000_001Ch: lightweight profiling capabilities (R268 to R271, its gate of R267 open). -/
def leaf8000_001C (cfg : Cfg) (env : Env) (sub : Word) : Entry :=
  { eax := fn8000_001C_EAX cfg env sub,
    ebx := fn8000_001C_EBX cfg env sub,
    ecx := fn8000_001C_ECX cfg env sub,
    edx := fn8000_001C_EDX cfg env sub }


end Sys2Proof.Machine
end

