-- ==== Sys2Proof/Machine/Ops.lean ====
section
/-! DEFINITION. The named operations over registers, the draws, the program counter, memory and exceptions.

They are the primitives of 00_scope.md R8: `x[r]`, `x[r] <- v`, `pc`, `MemRead`, `MemWrite`, `raise`, `rsv`. -/

namespace Sys2Proof.Machine

/-! ## Draws -/

/-- Word `word` of the draws of the execution about to happen (R76). -/
def State.drawWord (s : State) (word : Nat) : Word := Config.rsv s.drawCount word

/-- `draws4` for this execution: one word for each return register (R76, R77). -/
def State.draws4 (s : State) : Regs4 := ⟨s.drawWord 0, s.drawWord 1, s.drawWord 2, s.drawWord 3⟩

/-- The next execution draws afresh (R76). -/
def State.nextDraws (s : State) : State := { s with drawCount := s.drawCount + 1 }

/-! ## Registers -/

/-- The containing register (R21). -/
def State.container (s : State) : Reg → Quadword
  | .eax => s.rax
  | .ebx => s.rbx
  | .ecx => s.rcx
  | .edx => s.rdx

/-- `x[r]` (00_scope.md R8): bits 31:0 of the containing register, all that CPUID reads of it (R21). -/
def State.readReg (s : State) (r : Reg) : Word := (s.container r).setWidth 32

/-- What a write of 32 bits leaves in bits 63:32 of the containing register (R21, decision D1). -/
def State.upperHalf (s : State) : Reg → Word
  | .eax => match s.upperHalfPolicy with | .zero => 0 | .draw => s.drawWord 4
  | .ebx => match s.upperHalfPolicy with | .zero => 0 | .draw => s.drawWord 5
  | .ecx => match s.upperHalfPolicy with | .zero => 0 | .draw => s.drawWord 6
  | .edx => match s.upperHalfPolicy with | .zero => 0 | .draw => s.drawWord 7

/-- `x[r] <- v` (00_scope.md R8, 10_state.md R21). -/
def State.writeReg (s : State) (r : Reg) (v : Word) : State :=
  match r with
  | .eax => { s with rax := s.upperHalf .eax ++ v }
  | .ebx => { s with rbx := s.upperHalf .ebx ++ v }
  | .ecx => { s with rcx := s.upperHalf .ecx ++ v }
  | .edx => { s with rdx := s.upperHalf .edx ++ v }

/-- The four writes of R70. -/
def State.writeResults (s : State) (v : Regs4) : State :=
  (((s.writeReg .eax v.eax).writeReg .ebx v.ebx).writeReg .ecx v.ecx).writeReg .edx v.edx

/-! ## Program counter -/

end Sys2Proof.Machine

namespace Sys2Proof

/-- The width in bits (R22). -/
def IpWidth.bits : IpWidth → Nat
  | .w16 => 16
  | .w32 => 32
  | .w64 => 64

/-- `v` modulo 2^W (R22). -/
def IpWidth.wrap (w : IpWidth) (v : Quadword) : Quadword := (v.setWidth w.bits).setWidth 64

end Sys2Proof

namespace Sys2Proof.Machine

/-- `pc <- pc + n`, modulo 2^W (R22). -/
def State.advancePc (s : State) (n : Nat) : State :=
  { s with pc := s.ipWidth.wrap (s.pc + BitVec.ofNat 64 n) }

/-! ## Memory -/

/-- What an address that no cell lists reads as: nothing, for the spec gives memory no reset contents (log entry 8). -/
def Memory.unlisted : Option Byte := none

/-- The byte at an address. -/
def Memory.read : Memory → Nat → Option Byte
  | [], _ => Memory.unlisted
  | c :: m, a => if c.1 = a then some c.2 else Memory.read m a

/-- The memory with a byte written, its cells in order of address. -/
def Memory.write : Memory → Nat → Byte → Memory
  | [], a, b => [(a, b)]
  | c :: m, a, b =>
    if a < c.1 then (a, b) :: c :: m
    else if c.1 = a then (a, b) :: m
    else c :: Memory.write m a b

/-- `n` bytes from an address on, addresses modulo 2^64; or the first address that reads as nothing. -/
def Memory.readBytes (m : Memory) (a : Quadword) : Nat → Except Nat (List Byte)
  | 0 => .ok []
  | n + 1 =>
    match m.read a.toNat with
    | none => .error a.toNat
    | some b =>
      match Memory.readBytes m (a + 1) n with
      | .error e => .error e
      | .ok bs => .ok (b :: bs)

/-- Bytes written from an address on, addresses modulo 2^64. -/
def Memory.writeBytes (m : Memory) (a : Quadword) : List Byte → Memory
  | [] => m
  | b :: bs => Memory.writeBytes (m.write a.toNat b) (a + 1) bs

/-- The bytes of a register in the order a store lays them out: bits 7:0 first (20_memory.md R42, decision D20). -/
def wordBytes (v : Word) : List Byte :=
  [v.extractLsb' 0 8, v.extractLsb' 8 8, v.extractLsb' 16 8, v.extractLsb' 24 8]

/-- `MemWrite(addr, 4, v)` (00_scope.md R8, 20_memory.md R42). No rule of CPUID uses it (R43). -/
def Memory.write32 (m : Memory) (a : Quadword) (v : Word) : Memory := m.writeBytes a (wordBytes v)

/-- `MemRead(addr, 4)` (00_scope.md R8, 20_memory.md R42). No rule of CPUID uses it (R43). -/
def Memory.read32 (m : Memory) (a : Quadword) : Except Nat Word :=
  match m.readBytes a 4 with
  | .ok [b0, b1, b2, b3] => .ok (b3 ++ b2 ++ b1 ++ b0)
  | .ok _ => .error a.toNat
  | .error e => .error e

/-! ## Fetch -/

/-- The address of byte `k` of the instruction at `pc`, modulo 2^W (20_memory.md R44, 10_state.md R22). -/
def State.fetchAddress (s : State) (k : Nat) : Nat := (s.ipWidth.wrap (s.pc + BitVec.ofNat 64 k)).toNat

/-- The bytes `k`, `k + 1`, … of the instruction at `pc`, `n` of them; or the first address without text. -/
def State.fetchFrom (s : State) (k : Nat) : Nat → Except Nat (List Byte)
  | 0 => .ok []
  | n + 1 =>
    match s.mem.read (s.fetchAddress k) with
    | none => .error (s.fetchAddress k)
    | some b =>
      match State.fetchFrom s (k + 1) n with
      | .error e => .error e
      | .ok bs => .ok (b :: bs)

/-- The fetch (R44): it "reads the 2 bytes of its encoding at `pc` and `pc + 1`". -/
def State.fetch (s : State) : Except Nat (List Byte) := s.fetchFrom 0 maxInstrBytes

/-- The bytes laid where the fetch reads them, the first at `pc`. -/
def State.placeText (s : State) (k : Nat) : List Byte → State
  | [] => s
  | b :: bs => State.placeText { s with mem := s.mem.write (s.fetchAddress k) b } (k + 1) bs

/-- The decoder's reason as the machine's. -/
def refusalOf : DecodeError → Refusal
  | .prefixedForm b => .prefixedForm b
  | .notCpuid b0 b1 => .notCpuid b0 b1
  | .truncated => .truncated

/-! ## Exceptions -/

/-- `raise GP(errorCode)` (00_scope.md R8, 60_exceptions.md R356): the instruction is abandoned with no register
written, and the modelled execution ends in the terminal state `Fault(GP, errorCode)`. The spec gives no trap entry, no
vector table and no return, so there is no continuation to model. -/
def State.raiseGp (_s : State) (errorCode : Nat) : Host.Outcome State Fault Refusal :=
  .fault (.gp errorCode)

/-- The vector number of a fault (60_exceptions.md R352: "the general-protection exception, vector 13"). -/
def Fault.vector : Fault → Nat
  | .gp _ => 13

end Sys2Proof.Machine
end

