-- ==== Sys2Proof/Machine/StdFn.lean ====
section
/-! DEFINITION. Standard functions 0h to 7h (41_std_fn0_to_fn7.md).

One list of fields for each return register, in the order of the spec's bullets; the bits that no field names are
reserved and take the draw (40_cpuid_instruction.md R77). Functions 2h to 4h are reserved (R110): `leafEntry` answers
them with four draws. Every definition takes the record, the state and the subfunction, though few use all three. -/

namespace Sys2Proof.Machine

/-! ## Function 0h: maximum standard function number and vendor string -/

/-- `Fn0000_0000_EAX` Largest Standard Function Number (R100). -/
def fn0000_0000_EAX (cfg : Cfg) (_env : Env) (_sub : Word) : Register :=
  [ ⟨31, 0, cfg.LFuncStd⟩ ]

/-- `Fn0000_0000_EBX` Processor Vendor (R101). -/
def fn0000_0000_EBX (_cfg : Cfg) (_env : Env) (_sub : Word) : Register :=
  [ ⟨31, 0, 0x68747541⟩ /- Vendor -/ ]

/-- `Fn0000_0000_ECX` Processor Vendor (R101). -/
def fn0000_0000_ECX (_cfg : Cfg) (_env : Env) (_sub : Word) : Register :=
  [ ⟨31, 0, 0x444D4163⟩ /- Vendor -/ ]

/-- `Fn0000_0000_EDX` Processor Vendor (R101). -/
def fn0000_0000_EDX (_cfg : Cfg) (_env : Env) (_sub : Word) : Register :=
  [ ⟨31, 0, 0x69746E65⟩ /- Vendor -/ ]

/-- Function 0000_0000h: maximum standard function number and vendor string (R100, R101). -/
def leaf0000_0000 (cfg : Cfg) (env : Env) (sub : Word) : Entry :=
  { eax := fn0000_0000_EAX cfg env sub,
    ebx := fn0000_0000_EBX cfg env sub,
    ecx := fn0000_0000_ECX cfg env sub,
    edx := fn0000_0000_EDX cfg env sub }

/-! ## Function 1h: processor and processor feature identifiers -/

/-- `Fn0000_0001_EAX` Family, Model, Stepping Identifiers (R104). -/
def fn0000_0001_EAX (cfg : Cfg) (_env : Env) (_sub : Word) : Register :=
  Field.onlyIf (cfg.Fn0000_0001_EAX.BaseFamily == 0xF) ⟨27, 20, cfg.Fn0000_0001_EAX.ExtFamily⟩ ++
  Field.onlyIf (cfg.Fn0000_0001_EAX.BaseFamily == 0xF) ⟨19, 16, cfg.Fn0000_0001_EAX.ExtModel⟩ ++
  [ ⟨11, 8, cfg.Fn0000_0001_EAX.BaseFamily⟩, ⟨7, 4, cfg.Fn0000_0001_EAX.BaseModel⟩,
      ⟨3, 0, cfg.Fn0000_0001_EAX.Stepping⟩ ]

/-- `Fn0000_0001_EBX` LocalApicId, LogicalProcessorCount, CLFlush (R105). -/
def fn0000_0001_EBX (cfg : Cfg) (_env : Env) (_sub : Word) : Register :=
  [ ⟨31, 24, cfg.Fn0000_0001_EBX.LocalApicId⟩ ] ++
  Field.onlyIf (cfg.Fn0000_0001_EDX.HTT == 1) ⟨23, 16, cfg.Fn0000_0001_EBX.LogicalProcessorCount⟩ ++
  [ ⟨15, 8, cfg.Fn0000_0001_EBX.CLFlush⟩, ⟨7, 0, cfg.Fn0000_0001_EBX._8BitBrandId⟩ ]

/-- `Fn0000_0001_ECX` Feature Identifiers (R106). -/
def fn0000_0001_ECX (cfg : Cfg) (env : Env) (_sub : Word) : Register :=
  [ ⟨31, 31, 0⟩ /- RAZ -/, ⟨30, 30, cfg.Fn0000_0001_ECX.RDRAND⟩, ⟨29, 29, cfg.Fn0000_0001_ECX.F16C⟩,
      ⟨28, 28, cfg.Fn0000_0001_ECX.AVX⟩, ⟨27, 27, env.OSXSAVE⟩, ⟨26, 26, cfg.Fn0000_0001_ECX.XSAVE⟩,
      ⟨25, 25, cfg.Fn0000_0001_ECX.AES⟩, ⟨23, 23, cfg.Fn0000_0001_ECX.POPCNT⟩,
      ⟨22, 22, cfg.Fn0000_0001_ECX.MOVBE⟩, ⟨21, 21, cfg.Fn0000_0001_ECX.x2APIC⟩,
      ⟨20, 20, cfg.Fn0000_0001_ECX.SSE42⟩, ⟨19, 19, cfg.Fn0000_0001_ECX.SSE41⟩,
      ⟨13, 13, cfg.Fn0000_0001_ECX.CMPXCHG16B⟩, ⟨12, 12, cfg.Fn0000_0001_ECX.FMA⟩,
      ⟨9, 9, cfg.Fn0000_0001_ECX.SSSE3⟩, ⟨3, 3, cfg.Fn0000_0001_ECX.MONITOR⟩,
      ⟨1, 1, cfg.Fn0000_0001_ECX.PCLMULQDQ⟩, ⟨0, 0, cfg.Fn0000_0001_ECX.SSE3⟩ ]

/-- `Fn0000_0001_EDX` Feature Identifiers (R109). -/
def fn0000_0001_EDX (cfg : Cfg) (env : Env) (_sub : Word) : Register :=
  [ ⟨28, 28, cfg.Fn0000_0001_EDX.HTT⟩, ⟨26, 26, cfg.Fn0000_0001_EDX.SSE2⟩, ⟨25, 25, cfg.Fn0000_0001_EDX.SSE⟩,
      ⟨24, 24, cfg.Fn0000_0001_EDX.FXSR⟩, ⟨23, 23, cfg.Fn0000_0001_EDX.MMX⟩, ⟨19, 19, cfg.Fn0000_0001_EDX.CLFSH⟩,
      ⟨17, 17, cfg.Fn0000_0001_EDX.PSE36⟩, ⟨16, 16, cfg.Fn0000_0001_EDX.PAT⟩, ⟨15, 15, cfg.Fn0000_0001_EDX.CMOV⟩,
      ⟨14, 14, cfg.Fn0000_0001_EDX.MCA⟩, ⟨13, 13, cfg.Fn0000_0001_EDX.PGE⟩, ⟨12, 12, cfg.Fn0000_0001_EDX.MTRR⟩,
      ⟨11, 11, cfg.Fn0000_0001_EDX.SysEnterSysExit⟩, ⟨9, 9, cfg.ApicExists &&& env.ApicEn⟩,
      ⟨8, 8, cfg.Fn0000_0001_EDX.CMPXCHG8B⟩, ⟨7, 7, cfg.Fn0000_0001_EDX.MCE⟩, ⟨6, 6, cfg.Fn0000_0001_EDX.PAE⟩,
      ⟨5, 5, cfg.Fn0000_0001_EDX.MSR⟩, ⟨4, 4, cfg.Fn0000_0001_EDX.TSC⟩, ⟨3, 3, cfg.Fn0000_0001_EDX.PSE⟩,
      ⟨2, 2, cfg.Fn0000_0001_EDX.DE⟩, ⟨1, 1, cfg.Fn0000_0001_EDX.VME⟩, ⟨0, 0, cfg.Fn0000_0001_EDX.FPU⟩ ]

/-- Function 0000_0001h: processor and processor feature identifiers (R104, R105, R106, R109). -/
def leaf0000_0001 (cfg : Cfg) (env : Env) (sub : Word) : Entry :=
  { eax := fn0000_0001_EAX cfg env sub,
    ebx := fn0000_0001_EBX cfg env sub,
    ecx := fn0000_0001_ECX cfg env sub,
    edx := fn0000_0001_EDX cfg env sub }

/-! ## Function 5h: Monitor and MWait features -/

/-- `Fn0000_0005_EAX` Monitor/MWait (R112). -/
def fn0000_0005_EAX (cfg : Cfg) (_env : Env) (_sub : Word) : Register :=
  [ ⟨15, 0, cfg.Fn0000_0005_EAX.MonLineSizeMin⟩ ]

/-- `Fn0000_0005_EBX` Monitor/MWait (R113). -/
def fn0000_0005_EBX (cfg : Cfg) (_env : Env) (_sub : Word) : Register :=
  [ ⟨15, 0, cfg.Fn0000_0005_EBX.MonLineSizeMax⟩ ]

/-- `Fn0000_0005_ECX` Monitor/MWait (R114). -/
def fn0000_0005_ECX (cfg : Cfg) (_env : Env) (_sub : Word) : Register :=
  [ ⟨1, 1, cfg.Fn0000_0005_ECX.IBE⟩, ⟨0, 0, cfg.Fn0000_0005_ECX.EMX⟩ ]

/-- Function 0000_0005h: Monitor and MWait features (R112 to R115). -/
def leaf0000_0005 (cfg : Cfg) (env : Env) (sub : Word) : Entry :=
  { eax := fn0000_0005_EAX cfg env sub,
    ebx := fn0000_0005_EBX cfg env sub,
    ecx := fn0000_0005_ECX cfg env sub,
    edx := reserved /- R115 -/ }

/-! ## Function 6h: power management related features -/

/-- `Fn0000_0006_EAX` Local APIC Timer Invariance (R116). -/
def fn0000_0006_EAX (cfg : Cfg) (_env : Env) (_sub : Word) : Register :=
  [ ⟨2, 2, cfg.Fn0000_0006_EAX.ARAT⟩ ]

/-- `Fn0000_0006_ECX` Effective Processor Frequency Interface (R118). -/
def fn0000_0006_ECX (cfg : Cfg) (_env : Env) (_sub : Word) : Register :=
  [ ⟨0, 0, cfg.Fn0000_0006_ECX.EffFreq⟩ ]

/-- Function 0000_0006h: power management related features (R116 to R119). -/
def leaf0000_0006 (cfg : Cfg) (env : Env) (sub : Word) : Entry :=
  { eax := fn0000_0006_EAX cfg env sub,
    ebx := reserved /- R117 -/,
    ecx := fn0000_0006_ECX cfg env sub,
    edx := reserved /- R119 -/ }

/-! ## Function 7h: structured extended feature identifiers -/

/-- `Fn0000_0007_EAX_x0` Structured Extended Feature Identifiers (ECX=0) (R124). -/
def fn0000_0007_EAX_x0 (cfg : Cfg) (_env : Env) (_sub : Word) : Register :=
  [ ⟨31, 0, cfg.Fn7_MaxSubFn⟩ ]

/-- `Fn0000_0007_EBX_x0` Structured Extended Feature Identifiers (ECX=0) (R125). -/
def fn0000_0007_EBX_x0 (cfg : Cfg) (_env : Env) (_sub : Word) : Register :=
  [ ⟨31, 31, cfg.Fn0000_0007_EBX_x0.AVX512VL⟩, ⟨30, 30, cfg.Fn0000_0007_EBX_x0.AVX512BW⟩,
      ⟨29, 29, cfg.Fn0000_0007_EBX_x0.SHA⟩, ⟨28, 28, cfg.Fn0000_0007_EBX_x0.AVX512CD⟩,
      ⟨24, 24, cfg.Fn0000_0007_EBX_x0.CLWB⟩, ⟨23, 23, cfg.Fn0000_0007_EBX_x0.CLFLUSHOPT⟩,
      ⟨21, 21, cfg.Fn0000_0007_EBX_x0.AVX512_IFMA⟩, ⟨20, 20, cfg.Fn0000_0007_EBX_x0.SMAP⟩,
      ⟨19, 19, cfg.Fn0000_0007_EBX_x0.ADX⟩, ⟨18, 18, cfg.Fn0000_0007_EBX_x0.RDSEED⟩,
      ⟨17, 17, cfg.Fn0000_0007_EBX_x0.AVX512DQ⟩, ⟨16, 16, cfg.Fn0000_0007_EBX_x0.AVX512F⟩,
      ⟨15, 15, cfg.Fn0000_0007_EBX_x0.PQE⟩, ⟨12, 12, cfg.Fn0000_0007_EBX_x0.PQM⟩,
      ⟨10, 10, cfg.Fn0000_0007_EBX_x0.INVPCID⟩, ⟨9, 9, cfg.Fn0000_0007_EBX_x0.ERMS⟩,
      ⟨8, 8, cfg.Fn0000_0007_EBX_x0.BMI2⟩, ⟨7, 7, cfg.Fn0000_0007_EBX_x0.SMEP⟩,
      ⟨5, 5, cfg.Fn0000_0007_EBX_x0.AVX2⟩, ⟨3, 3, cfg.Fn0000_0007_EBX_x0.BMI1⟩,
      ⟨1, 1, cfg.Fn0000_0007_EBX_x0.TSCADJUST⟩, ⟨0, 0, cfg.Fn0000_0007_EBX_x0.FSGSBASE⟩ ]

/-- `Fn0000_0007_ECX_x0` Structured Extended Feature Identifiers (ECX=0) (R126). -/
def fn0000_0007_ECX_x0 (cfg : Cfg) (env : Env) (_sub : Word) : Register :=
  [ ⟨28, 28, cfg.Fn0000_0007_ECX_x0.MOVDIR64B⟩, ⟨27, 27, cfg.Fn0000_0007_ECX_x0.MOVDIRI⟩,
      ⟨24, 24, cfg.Fn0000_0007_ECX_x0.BUSLOCKTRAP⟩, ⟨22, 22, cfg.Fn0000_0007_ECX_x0.RDPID⟩,
      ⟨16, 16, cfg.Fn0000_0007_ECX_x0.LA57⟩, ⟨14, 14, cfg.Fn0000_0007_ECX_x0.AVX512_VPOPCNTDQ⟩,
      ⟨12, 12, cfg.Fn0000_0007_ECX_x0.AVX512_BITALG⟩, ⟨11, 11, cfg.Fn0000_0007_ECX_x0.AVX512_VNNI⟩,
      ⟨10, 10, cfg.Fn0000_0007_ECX_x0.VPCLMULQDQ⟩, ⟨9, 9, cfg.Fn0000_0007_ECX_x0.VAES⟩,
      ⟨8, 8, cfg.Fn0000_0007_ECX_x0.GFNI⟩, ⟨7, 7, cfg.Fn0000_0007_ECX_x0.CET_SS⟩,
      ⟨6, 6, cfg.Fn0000_0007_ECX_x0.AVX512_VBMI2⟩, ⟨4, 4, env.CR4_PKE⟩, ⟨3, 3, cfg.Fn0000_0007_ECX_x0.PKU⟩,
      ⟨2, 2, cfg.Fn0000_0007_ECX_x0.UMIP⟩, ⟨1, 1, cfg.Fn0000_0007_ECX_x0.AVX512_VBMI⟩ ]

/-- `Fn0000_0007_EAX_x1` Structured Extended Feature Identifiers (ECX=1) (R129). -/
def fn0000_0007_EAX_x1 (cfg : Cfg) (_env : Env) (_sub : Word) : Register :=
  [ ⟨5, 5, cfg.Fn0000_0007_EAX_x1.AVX512_BF16⟩, ⟨4, 4, cfg.Fn0000_0007_EAX_x1.AVX_VNNI⟩ ]

/-- Subfunction 0 of function 7 (R124 to R127). -/
def leaf0000_0007_x0 (cfg : Cfg) (env : Env) (sub : Word) : Entry :=
  { eax := fn0000_0007_EAX_x0 cfg env sub,
    ebx := fn0000_0007_EBX_x0 cfg env sub,
    ecx := fn0000_0007_ECX_x0 cfg env sub,
    edx := reserved /- R127 -/ }

/-- Subfunction 1 of function 7 (R129 to R132). -/
def leaf0000_0007_x1 (cfg : Cfg) (env : Env) (sub : Word) : Entry :=
  { eax := fn0000_0007_EAX_x1 cfg env sub,
    ebx := reserved /- R130 -/,
    ecx := reserved /- R131 -/,
    edx := reserved /- R132 -/ }

/-- Function 7 (R123): the subfunction selects; every other subfunction is four draws (R133, decision D10). -/
def leaf0000_0007 (cfg : Cfg) (env : Env) (sub : Word) : Entry :=
  if sub = 0 then leaf0000_0007_x0 cfg env sub
  else if sub = 1 ∧ 1 ≤ cfg.Fn7_MaxSubFn then leaf0000_0007_x1 cfg env sub
  else .draws4


end Sys2Proof.Machine
end

