-- ==== Sys2Proof/Machine/StdFnB.lean ====
section
/-! DEFINITION. Standard functions Bh to 10h (42_std_fnB_to_fn10.md).

Functions 8h to Ah, Ch and Eh (R140) are reserved and 4000_0000h to 4000_00FFh (R180) are the hypervisor's: `leafEntry`
answers them with four draws. The gates of functions Fh and 10h are `gateOpen`. -/

namespace Sys2Proof.Machine

/-! ## Function Bh: extended topology enumeration -/

/-- `Fn0000_000B_EAX_x0` Extended Topology Enumeration (ECX=0) (R143). -/
def fn0000_000B_EAX_x0 (cfg : Cfg) (_env : Env) (_sub : Word) : Register :=
  [ ⟨4, 0, cfg.Fn0000_000B_EAX_x0.ThreadMaskWidth⟩ ]

/-- `Fn0000_000B_EBX_x0` Extended Topology Enumeration (ECX=0) (R144). -/
def fn0000_000B_EBX_x0 (cfg : Cfg) (_env : Env) (_sub : Word) : Register :=
  [ ⟨15, 0, cfg.Fn0000_000B_EBX_x0.NumLogProc⟩ ]

/-- `Fn0000_000B_ECX_x0` Extended Topology Enumeration (ECX=0) (R145). -/
def fn0000_000B_ECX_x0 (_cfg : Cfg) (_env : Env) (sub : Word) : Register :=
  [ ⟨15, 8, 0x01⟩ /- HierarchyLevel -/, ⟨7, 0, inputEcx sub⟩ ]

/-- `Fn0000_000B_EDX_x0` Extended Topology Enumeration (ECX=0) (R146). -/
def fn0000_000B_EDX_x0 (cfg : Cfg) (_env : Env) (_sub : Word) : Register :=
  [ ⟨31, 0, cfg.x2APIC_ID⟩ ]

/-- `Fn0000_000B_EAX_x1` Extended Topology Enumeration (ECX=1), the four registers `Fn0000_000B_EAX_x1`, `_EBX_x1`,
`_ECX_x1`, `_EDX_x1` (R147). -/
def fn0000_000B_EAX_x1 (cfg : Cfg) (_env : Env) (_sub : Word) : Register :=
  [ ⟨4, 0, cfg.Fn0000_000B_EAX_x1.CoreMaskWidth⟩ ]

/-- `Fn0000_000B_EBX_x1` Extended Topology Enumeration (ECX=1), the four registers `Fn0000_000B_EAX_x1`, `_EBX_x1`,
`_ECX_x1`, `_EDX_x1` (R147). -/
def fn0000_000B_EBX_x1 (cfg : Cfg) (_env : Env) (_sub : Word) : Register :=
  [ ⟨15, 0, cfg.Fn0000_000B_EBX_x1.NumLogCores⟩ ]

/-- `Fn0000_000B_ECX_x1` Extended Topology Enumeration (ECX=1), the four registers `Fn0000_000B_EAX_x1`, `_EBX_x1`,
`_ECX_x1`, `_EDX_x1` (R147). -/
def fn0000_000B_ECX_x1 (_cfg : Cfg) (_env : Env) (sub : Word) : Register :=
  [ ⟨15, 8, 0x02⟩ /- HierarchyLevel -/, ⟨7, 0, inputEcx sub⟩ ]

/-- `Fn0000_000B_EDX_x1` Extended Topology Enumeration (ECX=1), the four registers `Fn0000_000B_EAX_x1`, `_EBX_x1`,
`_ECX_x1`, `_EDX_x1` (R147). -/
def fn0000_000B_EDX_x1 (cfg : Cfg) (_env : Env) (_sub : Word) : Register :=
  [ ⟨31, 0, cfg.x2APIC_ID⟩ ]

/-- The thread level (R143 to R146). -/
def leaf0000_000B_x0 (cfg : Cfg) (env : Env) (sub : Word) : Entry :=
  { eax := fn0000_000B_EAX_x0 cfg env sub,
    ebx := fn0000_000B_EBX_x0 cfg env sub,
    ecx := fn0000_000B_ECX_x0 cfg env sub,
    edx := fn0000_000B_EDX_x0 cfg env sub }

/-- The core level (R147). -/
def leaf0000_000B_x1 (cfg : Cfg) (env : Env) (sub : Word) : Entry :=
  { eax := fn0000_000B_EAX_x1 cfg env sub,
    ebx := fn0000_000B_EBX_x1 cfg env sub,
    ecx := fn0000_000B_ECX_x1 cfg env sub,
    edx := fn0000_000B_EDX_x1 cfg env sub }

/-- An unimplemented level (R148, decision D8): EAX is zero, the rest is not stated. -/
def leaf0000_000B_unimplemented : Entry :=
  { eax := zeroRegister, ebx := reserved, ecx := reserved, edx := reserved }

/-- Function Bh (R141): the level that ECX selects, among the `FnB_Levels` of the processor (R142). -/
def leaf0000_000B (cfg : Cfg) (env : Env) (sub : Word) : Entry :=
  if sub = 0 ∧ 1 ≤ cfg.FnB_Levels then leaf0000_000B_x0 cfg env sub
  else if sub = 1 ∧ 2 ≤ cfg.FnB_Levels then leaf0000_000B_x1 cfg env sub
  else leaf0000_000B_unimplemented

/-! ## Function Dh: processor extended state enumeration -/

/-- The size of the save area in subfunction 1 (R157): the fixed 240h bytes and the size of each enabled feature, with
`XCR0[AVX]` bit 2, `XCR0[MPK]` bit 9 (R27), `XSS[CET_U]` bit 11 and `XSS[CET_S]` bit 12 (R28). -/
def compactAreaSize (env : Env) : Word :=
  0x240 + (if env.XCR0.getLsbD 2 then 0x100 else 0) + (if env.XCR0.getLsbD 9 then 0x8 else 0) +
    (if env.XSS.getLsbD 11 then 0x10 else 0) + (if env.XSS.getLsbD 12 then 0x18 else 0)

/-- `Fn0000_000D_EAX_x0` Processor Extended State Enumeration (ECX=0) (R152). -/
def fn0000_000D_EAX_x0 (cfg : Cfg) (_env : Env) (_sub : Word) : Register :=
  [ ⟨31, 0, cfg.Fn0000_000D_EAX_x0.XFeatureSupportedMaskLo⟩ ]

/-- `Fn0000_000D_EBX_x0` Processor Extended State Enumeration (ECX=0) (R153). -/
def fn0000_000D_EBX_x0 (cfg : Cfg) (env : Env) (_sub : Word) : Register :=
  [ ⟨31, 0, cfg.XFeatureEnabledSizeMax.apply env.XCR0⟩ ]

/-- `Fn0000_000D_ECX_x0` Processor Extended State Enumeration (ECX=0) (R154). -/
def fn0000_000D_ECX_x0 (cfg : Cfg) (_env : Env) (_sub : Word) : Register :=
  [ ⟨31, 0, cfg.Fn0000_000D_ECX_x0.XFeatureSupportedSizeMax⟩ ]

/-- `Fn0000_000D_EDX_x0` Processor Extended State Enumeration (ECX=0) (R155). -/
def fn0000_000D_EDX_x0 (cfg : Cfg) (_env : Env) (_sub : Word) : Register :=
  [ ⟨31, 0, cfg.Fn0000_000D_EDX_x0.XFeatureSupportedMaskHi⟩ ]

/-- `Fn0000_000D_EAX_x1` Processor Extended State Enumeration (ECX=1) (R156). -/
def fn0000_000D_EAX_x1 (cfg : Cfg) (_env : Env) (_sub : Word) : Register :=
  [ ⟨3, 3, cfg.Fn0000_000D_EAX_x1.XSAVES⟩, ⟨2, 2, cfg.Fn0000_000D_EAX_x1.XGETBV⟩,
      ⟨1, 1, cfg.Fn0000_000D_EAX_x1.XSAVEC⟩, ⟨0, 0, cfg.Fn0000_000D_EAX_x1.XSAVEOPT⟩ ]

/-- `Fn0000_000D_EBX_x1` Processor Extended State Enumeration (ECX=1) (R157). -/
def fn0000_000D_EBX_x1 (_cfg : Cfg) (env : Env) (_sub : Word) : Register :=
  [ ⟨31, 0, compactAreaSize env⟩ ]

/-- `Fn0000_000D_ECX_x1` Processor Extended State Enumeration (ECX=1) (R158). -/
def fn0000_000D_ECX_x1 (cfg : Cfg) (_env : Env) (_sub : Word) : Register :=
  [ ⟨12, 12, cfg.Fn0000_000D_ECX_x1.CET_S⟩, ⟨11, 11, cfg.Fn0000_000D_ECX_x1.CET_U⟩ ]

/-- `Fn0000_000D_EAX_x2` Processor Extended State Enumeration (ECX=2) (R160). -/
def fn0000_000D_EAX_x2 (cfg : Cfg) (_env : Env) (_sub : Word) : Register :=
  [ ⟨31, 0, cfg.Fn0000_000D_EAX_x2.YmmSaveStateSize⟩ ]

/-- `Fn0000_000D_EBX_x2` Processor Extended State Enumeration (ECX=2) (R161). -/
def fn0000_000D_EBX_x2 (cfg : Cfg) (_env : Env) (_sub : Word) : Register :=
  [ ⟨31, 0, cfg.Fn0000_000D_EBX_x2.YmmSaveStateOffset⟩ ]

/-- `Fn0000_000D_EAX_x0B` Processor Extended State Enumeration, CET user state, the four registers (R163). -/
def fn0000_000D_EAX_x0B (cfg : Cfg) (_env : Env) (_sub : Word) : Register :=
  [ ⟨31, 0, cfg.Fn0000_000D_EAX_x0B.CetUserSize⟩ ]

/-- `Fn0000_000D_EBX_x0B` Processor Extended State Enumeration, CET user state, the four registers (R163). -/
def fn0000_000D_EBX_x0B (cfg : Cfg) (_env : Env) (_sub : Word) : Register :=
  [ ⟨31, 0, cfg.Fn0000_000D_EBX_x0B.CetUserOffset⟩ ]

/-- `Fn0000_000D_ECX_x0B` Processor Extended State Enumeration, CET user state, the four registers (R163). -/
def fn0000_000D_ECX_x0B (_cfg : Cfg) (_env : Env) (_sub : Word) : Register :=
  [ ⟨31, 1, 0⟩, ⟨0, 0, 1⟩ /- U/S -/ ]

/-- `Fn0000_000D_EDX_x0B` Processor Extended State Enumeration, CET user state, the four registers (R163). -/
def fn0000_000D_EDX_x0B (_cfg : Cfg) (_env : Env) (_sub : Word) : Register :=
  [ ⟨31, 0, 0⟩ ]

/-- `Fn0000_000D_EAX_x0C` Processor Extended State Enumeration, CET supervisor state, the four registers (R164). -/
def fn0000_000D_EAX_x0C (cfg : Cfg) (_env : Env) (_sub : Word) : Register :=
  [ ⟨31, 0, cfg.Fn0000_000D_EAX_x0C.CetSupervisorSize⟩ ]

/-- `Fn0000_000D_EBX_x0C` Processor Extended State Enumeration, CET supervisor state, the four registers (R164). -/
def fn0000_000D_EBX_x0C (cfg : Cfg) (_env : Env) (_sub : Word) : Register :=
  [ ⟨31, 0, cfg.Fn0000_000D_EBX_x0C.CetSupervisorOffset⟩ ]

/-- `Fn0000_000D_ECX_x0C` Processor Extended State Enumeration, CET supervisor state, the four registers (R164). -/
def fn0000_000D_ECX_x0C (_cfg : Cfg) (_env : Env) (_sub : Word) : Register :=
  [ ⟨31, 1, 0⟩, ⟨0, 0, 1⟩ /- U/S -/ ]

/-- `Fn0000_000D_EDX_x0C` Processor Extended State Enumeration, CET supervisor state, the four registers (R164). -/
def fn0000_000D_EDX_x0C (_cfg : Cfg) (_env : Env) (_sub : Word) : Register :=
  [ ⟨31, 0, 0⟩ ]

/-- `Fn0000_000D_EAX_x3E` Processor Extended State Enumeration (ECX=62) (R165). -/
def fn0000_000D_EAX_x3E (cfg : Cfg) (_env : Env) (_sub : Word) : Register :=
  [ ⟨31, 0, cfg.Fn0000_000D_EAX_x3E.LwpSaveStateSize⟩ ]

/-- `Fn0000_000D_EBX_x3E` Processor Extended State Enumeration (ECX=62) (R166). -/
def fn0000_000D_EBX_x3E (cfg : Cfg) (_env : Env) (_sub : Word) : Register :=
  [ ⟨31, 0, cfg.Fn0000_000D_EBX_x3E.LwpSaveStateOffset⟩ ]

/-- Subfunction 0 of function Dh (R152 to R155). -/
def leaf0000_000D_x0 (cfg : Cfg) (env : Env) (sub : Word) : Entry :=
  { eax := fn0000_000D_EAX_x0 cfg env sub,
    ebx := fn0000_000D_EBX_x0 cfg env sub,
    ecx := fn0000_000D_ECX_x0 cfg env sub,
    edx := fn0000_000D_EDX_x0 cfg env sub }

/-- Subfunction 1 of function Dh (R156 to R159). -/
def leaf0000_000D_x1 (cfg : Cfg) (env : Env) (sub : Word) : Entry :=
  { eax := fn0000_000D_EAX_x1 cfg env sub,
    ebx := fn0000_000D_EBX_x1 cfg env sub,
    ecx := fn0000_000D_ECX_x1 cfg env sub,
    edx := reserved /- R159 -/ }

/-- The YMM state (R160 to R162). -/
def leaf0000_000D_x2 (cfg : Cfg) (env : Env) (sub : Word) : Entry :=
  { eax := fn0000_000D_EAX_x2 cfg env sub,
    ebx := fn0000_000D_EBX_x2 cfg env sub,
    ecx := reserved /- R162 -/,
    edx := reserved /- R162 -/ }

/-- The CET user state (R163). -/
def leaf0000_000D_x0B (cfg : Cfg) (env : Env) (sub : Word) : Entry :=
  { eax := fn0000_000D_EAX_x0B cfg env sub,
    ebx := fn0000_000D_EBX_x0B cfg env sub,
    ecx := fn0000_000D_ECX_x0B cfg env sub,
    edx := fn0000_000D_EDX_x0B cfg env sub }

/-- The CET supervisor state (R164). -/
def leaf0000_000D_x0C (cfg : Cfg) (env : Env) (sub : Word) : Entry :=
  { eax := fn0000_000D_EAX_x0C cfg env sub,
    ebx := fn0000_000D_EBX_x0C cfg env sub,
    ecx := fn0000_000D_ECX_x0C cfg env sub,
    edx := fn0000_000D_EDX_x0C cfg env sub }

/-- The LWP state (R165 to R167). -/
def leaf0000_000D_x3E (cfg : Cfg) (env : Env) (sub : Word) : Entry :=
  { eax := fn0000_000D_EAX_x3E cfg env sub,
    ebx := fn0000_000D_EBX_x3E cfg env sub,
    ecx := reserved /- R167 -/,
    edx := reserved /- R167 -/ }

/-- An unimplemented subfunction, and one above 3Eh: zeros in all four registers (R151, R168). -/
def leaf0000_000D_zero : Entry :=
  { eax := zeroRegister, ebx := zeroRegister, ecx := zeroRegister, edx := zeroRegister }

/-- An implemented subfunction of function Dh (R149): the four that the source describes. No record gives another one
this class (R150). -/
def leaf0000_000D_implemented (cfg : Cfg) (env : Env) (sub : Word) : Entry :=
  if sub = 0x02 then leaf0000_000D_x2 cfg env sub
  else if sub = 0x0B then leaf0000_000D_x0B cfg env sub
  else if sub = 0x0C then leaf0000_000D_x0C cfg env sub
  else if sub = 0x3E then leaf0000_000D_x3E cfg env sub
  else .draws4

/-- Function Dh (R149). -/
def leaf0000_000D (cfg : Cfg) (env : Env) (sub : Word) : Entry :=
  if sub = 0 then leaf0000_000D_x0 cfg env sub
  else if sub = 1 then leaf0000_000D_x1 cfg env sub
  else if 0x3E < sub then leaf0000_000D_zero
  else
    match cfg.fnDClass sub with
    | .unimplemented => leaf0000_000D_zero
    | .undescribed => .draws4
    | .implemented => leaf0000_000D_implemented cfg env sub

/-! ## Function Fh: PQOS monitoring -/

/-- `Fn0000_000F_EBX_x0` PQM Capabilities, the four registers (R171). -/
def fn0000_000F_EBX_x0 (cfg : Cfg) (_env : Env) (_sub : Word) : Register :=
  [ ⟨31, 0, cfg.Fn0000_000F_EBX_x0.Max_RMID⟩ ]

/-- `Fn0000_000F_EDX_x0` PQM Capabilities, the four registers (R171). -/
def fn0000_000F_EDX_x0 (cfg : Cfg) (_env : Env) (_sub : Word) : Register :=
  [ ⟨1, 1, cfg.Fn0000_000F_EDX_x0.L3CacheMon⟩ ]

/-- `Fn0000_000F_EAX_x1` L3 Cache Monitoring Capabilities, the four registers (R172). -/
def fn0000_000F_EAX_x1 (cfg : Cfg) (_env : Env) (_sub : Word) : Register :=
  [ ⟨8, 8, cfg.Fn0000_000F_EAX_x1.OverflowBit⟩, ⟨7, 0, cfg.Fn0000_000F_EAX_x1.CounterSize⟩ ]

/-- `Fn0000_000F_EBX_x1` L3 Cache Monitoring Capabilities, the four registers (R172). -/
def fn0000_000F_EBX_x1 (cfg : Cfg) (_env : Env) (_sub : Word) : Register :=
  [ ⟨31, 0, cfg.Fn0000_000F_EBX_x1.ScaleFactor⟩ ]

/-- `Fn0000_000F_ECX_x1` L3 Cache Monitoring Capabilities, the four registers (R172). -/
def fn0000_000F_ECX_x1 (cfg : Cfg) (_env : Env) (_sub : Word) : Register :=
  [ ⟨31, 0, cfg.Fn0000_000F_ECX_x1.Max_RMID⟩ ]

/-- `Fn0000_000F_EDX_x1` L3 Cache Monitoring Capabilities, the four registers (R172). -/
def fn0000_000F_EDX_x1 (cfg : Cfg) (_env : Env) (_sub : Word) : Register :=
  [ ⟨2, 2, cfg.Fn0000_000F_EDX_x1.L3CacheBWMonEvt1⟩, ⟨1, 1, cfg.Fn0000_000F_EDX_x1.L3CacheBWMonEvt0⟩,
      ⟨0, 0, cfg.Fn0000_000F_EDX_x1.L3CacheOccMon⟩ ]

/-- PQM capabilities (R171). -/
def leaf0000_000F_x0 (cfg : Cfg) (env : Env) (sub : Word) : Entry :=
  { eax := reserved /- R171 -/,
    ebx := fn0000_000F_EBX_x0 cfg env sub,
    ecx := reserved /- R171 -/,
    edx := fn0000_000F_EDX_x0 cfg env sub }

/-- L3 cache monitoring capabilities (R172). -/
def leaf0000_000F_x1 (cfg : Cfg) (env : Env) (sub : Word) : Entry :=
  { eax := fn0000_000F_EAX_x1 cfg env sub,
    ebx := fn0000_000F_EBX_x1 cfg env sub,
    ecx := fn0000_000F_ECX_x1 cfg env sub,
    edx := fn0000_000F_EDX_x1 cfg env sub }

/-- Function Fh (R170), its gate open; every other subfunction is four draws (R173, decision D11). -/
def leaf0000_000F (cfg : Cfg) (env : Env) (sub : Word) : Entry :=
  if sub = 0 then leaf0000_000F_x0 cfg env sub
  else if sub = 1 then leaf0000_000F_x1 cfg env sub
  else .draws4

/-! ## Function 10h: PQOS enforcement -/

/-- `Fn0000_0010_EDX_x0` PQE Capabilities, the four registers (R176). -/
def fn0000_0010_EDX_x0 (cfg : Cfg) (_env : Env) (_sub : Word) : Register :=
  [ ⟨1, 1, cfg.Fn0000_0010_EDX_x0.L3Alloc⟩ ]

/-- `Fn0000_0010_EAX_x1` L3 Cache Allocation Enforcement Capabilities, the four registers (R177). -/
def fn0000_0010_EAX_x1 (cfg : Cfg) (_env : Env) (_sub : Word) : Register :=
  [ ⟨4, 0, cfg.Fn0000_0010_EAX_x1.CBM_LEN⟩ ]

/-- `Fn0000_0010_EBX_x1` L3 Cache Allocation Enforcement Capabilities, the four registers (R177). -/
def fn0000_0010_EBX_x1 (cfg : Cfg) (_env : Env) (_sub : Word) : Register :=
  [ ⟨31, 0, cfg.Fn0000_0010_EBX_x1.L3ShareAllocMask⟩ ]

/-- `Fn0000_0010_ECX_x1` L3 Cache Allocation Enforcement Capabilities, the four registers (R177). -/
def fn0000_0010_ECX_x1 (cfg : Cfg) (_env : Env) (_sub : Word) : Register :=
  [ ⟨2, 2, cfg.Fn0000_0010_ECX_x1.CDP⟩ ]

/-- `Fn0000_0010_EDX_x1` L3 Cache Allocation Enforcement Capabilities, the four registers (R177). -/
def fn0000_0010_EDX_x1 (cfg : Cfg) (_env : Env) (_sub : Word) : Register :=
  [ ⟨15, 0, cfg.Fn0000_0010_EDX_x1.COS_MAX⟩ ]

/-- PQE capabilities (R176). -/
def leaf0000_0010_x0 (cfg : Cfg) (env : Env) (sub : Word) : Entry :=
  { eax := reserved /- R176 -/,
    ebx := reserved /- R176 -/,
    ecx := reserved /- R176 -/,
    edx := fn0000_0010_EDX_x0 cfg env sub }

/-- L3 cache allocation enforcement capabilities (R177). -/
def leaf0000_0010_x1 (cfg : Cfg) (env : Env) (sub : Word) : Entry :=
  { eax := fn0000_0010_EAX_x1 cfg env sub,
    ebx := fn0000_0010_EBX_x1 cfg env sub,
    ecx := fn0000_0010_ECX_x1 cfg env sub,
    edx := fn0000_0010_EDX_x1 cfg env sub }

/-- Function 10h (R175), its gate open; every other subfunction is four draws (R178, decision D11). -/
def leaf0000_0010 (cfg : Cfg) (env : Env) (sub : Word) : Entry :=
  if sub = 0 then leaf0000_0010_x0 cfg env sub
  else if sub = 1 then leaf0000_0010_x1 cfg env sub
  else .draws4

end Sys2Proof.Machine
end

