-- ==== Sys2Proof/Machine/Leaf.lean ====
section
/-! DEFINITION. `Leaf(fn, sub)` (40_cpuid_instruction.md R75, R78): the dispatch on the function number. -/

namespace Sys2Proof.Machine

/-- The feature gates of whole functions (R78), evaluated on the record; a function that is not named has no gate. The
gates of the subfunctions of 8000_0020h are in its own rule (R300). -/
def gateOpen (cfg : Cfg) (fn : Word) : Bool :=
  if fn = 0x0000000F then cfg.Fn0000_0007_EBX_x0.PQM == 1
  else if fn = 0x00000010 then cfg.Fn0000_0007_EBX_x0.PQE == 1
  else if fn = 0x8000000A then cfg.Fn8000_0001_ECX.SVM == 1
  else if fn = 0x8000001B then cfg.Fn8000_0001_ECX.IBS == 1
  else if fn = 0x8000001C then cfg.Fn8000_0001_ECX.LWP == 1
  else if fn = 0x8000001D then cfg.Fn8000_0001_ECX.TopologyExtensions == 1
  else if fn = 0x8000001E then cfg.Fn8000_0001_ECX.TopologyExtensions == 1
  else true

/-- A defined standard function (files 41 and 42); every other function number of the range is reserved or not
described, and gives four draws (R75, decision D6). -/
def standardEntry (cfg : Cfg) (env : Env) (fn sub : Word) : Entry :=
  if fn = 0x00000000 then leaf0000_0000 cfg env sub
  else if fn = 0x00000001 then leaf0000_0001 cfg env sub
  else if fn = 0x00000005 then leaf0000_0005 cfg env sub
  else if fn = 0x00000006 then leaf0000_0006 cfg env sub
  else if fn = 0x00000007 then leaf0000_0007 cfg env sub
  else if fn = 0x0000000B then leaf0000_000B cfg env sub
  else if fn = 0x0000000D then leaf0000_000D cfg env sub
  else if fn = 0x0000000F then leaf0000_000F cfg env sub
  else if fn = 0x00000010 then leaf0000_0010 cfg env sub
  else .draws4

/-- A defined extended function (files 43 to 45); every other function number of the range is reserved or not
described, and gives four draws (R75, decision D6). -/
def extendedEntry (cfg : Cfg) (env : Env) (fn sub : Word) : Entry :=
  if fn = 0x80000000 then leaf8000_0000 cfg env sub
  else if fn = 0x80000001 then leaf8000_0001 cfg env sub
  else if fn = 0x80000002 then leaf8000_0002 cfg env sub
  else if fn = 0x80000003 then leaf8000_0003 cfg env sub
  else if fn = 0x80000004 then leaf8000_0004 cfg env sub
  else if fn = 0x80000005 then leaf8000_0005 cfg env sub
  else if fn = 0x80000006 then leaf8000_0006 cfg env sub
  else if fn = 0x80000007 then leaf8000_0007 cfg env sub
  else if fn = 0x80000008 then leaf8000_0008 cfg env sub
  else if fn = 0x8000000A then leaf8000_000A cfg env sub
  else if fn = 0x80000019 then leaf8000_0019 cfg env sub
  else if fn = 0x8000001A then leaf8000_001A cfg env sub
  else if fn = 0x8000001B then leaf8000_001B cfg env sub
  else if fn = 0x8000001C then leaf8000_001C cfg env sub
  else if fn = 0x8000001D then leaf8000_001D cfg env sub
  else if fn = 0x8000001E then leaf8000_001E cfg env sub
  else if fn = 0x8000001F then leaf8000_001F cfg env sub
  else if fn = 0x80000020 then leaf8000_0020 cfg env sub
  else if fn = 0x80000021 then leaf8000_0021 cfg env sub
  else if fn = 0x80000022 then leaf8000_0022 cfg env sub
  else if fn = 0x80000023 then leaf8000_0023 cfg env sub
  else if fn = 0x80000025 then leaf8000_0025 cfg env sub
  else if fn = 0x80000026 then leaf8000_0026 cfg env sub
  else .draws4

/-- The entry of the CPUID information space at `(fn, sub)`, in the order of R75: the range test first (R73, R74,
decision D24), then the gate. The hypervisor range (R180, decision D15) and the numbers from 4000_0100h to 7FFF_FFFFh
are four draws whatever `LFuncStd` is. -/
def leafEntry (cfg : Cfg) (env : Env) (fn sub : Word) : Entry :=
  if fn < 0x40000000 then
    if cfg.LFuncStd < fn then .draws4
    else if gateOpen cfg fn then standardEntry cfg env fn sub
    else .draws4
  else if fn ≤ 0x7FFFFFFF then .draws4
  else if cfg.LFuncExt < fn then .draws4
  else if gateOpen cfg fn then extendedEntry cfg env fn sub
  else .draws4

/-- `Leaf(fn, sub)` (00_scope.md R8, R75): the four return values, the reserved bits taken from the draws. -/
def leaf (cfg : Cfg) (env : Env) (draws : Regs4) (fn sub : Word) : Regs4 :=
  (leafEntry cfg env fn sub).fill draws

end Sys2Proof.Machine
end

