-- ==== Sys2Proof/Machine/Cpuid.lean ====
section
/-! DEFINITION. The meaning of `CPUID` (40_cpuid_instruction.md R70). -/

namespace Sys2Proof.Machine

/-- The first step of R70: the `CpuidUserDis` facility is enabled and the privilege level is above 0
(60_exceptions.md R352). -/
def State.cpuidDisabled (s : State) : Bool :=
  s.env.CpuidUserDisEnabled == 1 && decide (0 < s.env.CPL)

/-- What an execution of CPUID returns in this state: both inputs are read before any register is written (R70). -/
def State.cpuidResult (s : State) : Regs4 :=
  leaf s.cfg s.env s.draws4 (s.readReg .eax) (s.readReg .ecx)

/-- `CPUID` (R70): the `CpuidUserDis` check comes first (60_exceptions.md R355); otherwise the four registers take the
return values, `pc` moves past the two bytes (10_state.md R22), and nothing else of the machine changes. -/
def execCpuid (s : State) : Host.Outcome State Fault Refusal :=
  if s.cpuidDisabled then s.raiseGp 0
  else
    .next (({ s.writeResults s.cpuidResult with eflags := flagsAfterCpuid s.eflags }.advancePc
      Instr.cpuid.length).nextDraws)

end Sys2Proof.Machine
end

