-- ==== Sys2Proof/Machine/Dispatch.lean ====
section
/-! DEFINITION. The one arm: CPUID is the only instruction of this spec (40_cpuid_instruction.md R84). -/

namespace Sys2Proof.Machine

def exec (i : Instr) (s : State) : Host.Outcome State Fault Refusal :=
  match i with
  | .cpuid => Sys2Proof.Machine.execCpuid s

end Sys2Proof.Machine
end

