-- ==== Sys2Proof/Machine/Step.lean ====
section
/-! DEFINITION. One step: fetch (20_memory.md R44), decode, execute. -/

namespace Sys2Proof.Machine

/-- One step of the machine. CPUID executes start to end in one step, with no interrupt inside it
(60_exceptions.md R354, 70_reset_and_hazards.md R377). -/
def step (s : State) : Host.Outcome State Fault Refusal :=
  match s.fetch with
  | .error address => .refused (.textAbsent address)
  | .ok bytes =>
    match decode bytes with
    | .error e => .refused (refusalOf e)
    | .ok (i, _) => exec i s

/-- The state with a word of the opcode table stored where the next step fetches: its bytes at `pc` and on, in address
order (log entries 8 and 11). -/
def State.withFetchWord (s : State) (nbits w : Nat) : State := s.placeText 0 (tableBytes nbits w)

end Sys2Proof.Machine
end

