-- ==== Sys2Proof/Machine/Derived.lean ====
section
/-! DEFINITION. The arithmetic the appendix defines over returned fields (40_cpuid_instruction.md R83).

The hardware executes none of it: it is what software does with what CPUID returned. Every operation is on unbounded
natural numbers unless the spec gives a width. Where the spec gives no value the answer is `none`, and a reserved
encoding answers `reserved` (R80, decision D28). -/

namespace Sys2Proof.Machine

/-- The bits `[hi:lo]` of a returned register (00_scope.md R8: `v[hi:lo]`). -/
def bitsOf (v : Word) (hi lo : Nat) : BitVec (hi - lo + 1) := v.extractLsb' lo (hi - lo + 1)

/-! ## Identification (41_std_fn0_to_fn7.md R101, R104, R105) -/

/-- The 12 characters of the vendor string, in the order EBX, EDX, ECX, each register from bits 7:0 up (R101). -/
def vendorString (v : Regs4) : List Byte := wordBytes v.ebx ++ wordBytes v.edx ++ wordBytes v.ecx

/-- The 16 characters one function of the name string returns, in the order EAX, EBX, ECX, EDX, each register from bits
7:0 up (43_ext_fn0_to_fn8.md R213). -/
def nameCharacters (v : Regs4) : List Byte := wordBytes v.eax ++ wordBytes v.ebx ++ wordBytes v.ecx ++ wordBytes v.edx

/-- `Family[7:0]` as software computes it from the EAX of function 1 or 8000_0001h (R104). -/
def familyFromEax (eax : Word) : BitVec 8 :=
  if bitsOf eax 11 8 = 0xF then (bitsOf eax 11 8).setWidth 8 + (bitsOf eax 27 20).setWidth 8
  else (bitsOf eax 11 8).setWidth 8

/-- `Model[7:0]` as software computes it (R104). -/
def modelFromEax (eax : Word) : BitVec 8 :=
  if bitsOf eax 11 8 = 0xF then ((bitsOf eax 19 16 ++ bitsOf eax 7 4 : BitVec 8)) else (bitsOf eax 7 4).setWidth 8

/-- The bytes a CLFLUSH line has: `8 * CLFlush` (R105). -/
def clflushBytes (r : Record.Fn0000_0001_EBX) : Nat := 8 * r.CLFlush.toNat

/-! ## Topology identifiers (42_std_fnB_to_fn10.md R143, R147; 45_ext_fn1D_to_fn26.md R332) -/

/-- The identifier of the core: `x2APIC_ID >> ThreadMaskWidth` (R143). -/
def coreId (cfg : Cfg) : Word := cfg.x2APIC_ID >>> cfg.Fn0000_000B_EAX_x0.ThreadMaskWidth.toNat

/-- The identifier of the package: `x2APIC_ID >> CoreMaskWidth` (R147). -/
def packageId (cfg : Cfg) : Word := cfg.x2APIC_ID >>> cfg.Fn0000_000B_EAX_x1.CoreMaskWidth.toNat

/-- The topology ID of a level of function 8000_0026h: `ExtendedApicId >> MaskWidth` (R332). -/
def topologyId (cfg : Cfg) (l : Record.Level) : Word := cfg.Fn8000_0026_EDX.ExtendedApicId >>> l.EAX.MaskWidth.toNat

/-- The APIC ID mask of the bits below a level: `(1 << MaskWidth) - 1` (R332). -/
def apicIdMaskBelow (l : Record.Level) : Word := (1 <<< l.EAX.MaskWidth.toNat) - 1

/-- The APIC ID mask of the bits at and above a level (R332). -/
def apicIdMaskAbove (l : Record.Level) : Word := ~~~apicIdMaskBelow l

/-- `EAX[31:29]` of function 8000_0026h is zero: "all components at this level are symmetric and homogeneous" (R332). -/
def levelUniform (eax : Word) : Bool := bitsOf eax 31 29 == 0

/-- The meanings of `LevelType` (R334). -/
inductive LevelMeaning where
  | core
  | complex
  | die
  | socket
  /-- 0h and 05h to FFh. -/
  | reserved
  deriving DecidableEq, Repr

/-- The meaning of a `LevelType` (R334). -/
def levelMeaning (t : BitVec 8) : LevelMeaning :=
  if t = 1 then .core
  else if t = 2 then .complex
  else if t = 3 then .die
  else if t = 4 then .socket
  else .reserved

/-! ## XSAVE, PQOS (42_std_fnB_to_fn10.md R172, R177; 45_ext_fn1D_to_fn26.md R305) -/

/-- The width in bits of a QM_CTR counter: `24 + CounterSize`, and not given by CPUID when `CounterSize` is 0 (R172,
R305). -/
def counterWidth (counterSize : BitVec 8) : Option Nat := if counterSize = 0 then none else some (24 + counterSize.toNat)

/-- A counter reading scaled: `QM_CTR * ScaleFactor` (R172). -/
def scaledCount (reading : Nat) (r : Record.Fn0000_000F_EBX_x1) : Nat := reading * r.ScaleFactor.toNat

/-- The length of the capacity bit mask: `CBM_LEN + 1` (R177). -/
def capacityMaskLength (r : Record.Fn0000_0010_EAX_x1) : Nat := r.CBM_LEN.toNat + 1

/-- `i` is one of the numbers a largest-index field announces: 0 to the field (R83: `Max_RMID`, `COS_MAX`, `MAX_ABMC`,
`LwpMaxEvents`, `MaxSubFn`). -/
def isIndexUpTo {w : Nat} (largest : BitVec w) (i : Nat) : Bool := decide (i ≤ largest.toNat)

/-! ## Caches and TLBs (43_ext_fn0_to_fn8.md R215 to R226) -/

/-- The meanings of Table E-3 (R215). -/
inductive L1Associativity where
  | reserved
  | directMapped
  | ways (n : Nat)
  | fully
  deriving DecidableEq, Repr

/-- Table E-3 (R215). -/
def l1Associativity (code : BitVec 8) : L1Associativity :=
  if code = 0x00 then .reserved
  else if code = 0x01 then .directMapped
  else if code = 0xFF then .fully
  else .ways code.toNat

/-- The meanings of Table E-4 (R222). -/
inductive L2Associativity where
  | disabled
  | directMapped
  /-- From `least` to `most` ways. -/
  | ways (least most : Nat)
  | reserved
  /-- "Value for all fields should be determined from Fn8000_001D." -/
  | seeFn8000_001D
  | moreThan128
  | fully
  deriving DecidableEq, Repr

/-- Table E-4 (R222). -/
def l2Associativity (code : BitVec 4) : L2Associativity :=
  if code = 0x0 then .disabled
  else if code = 0x1 then .directMapped
  else if code = 0x2 then .ways 2 2
  else if code = 0x3 then .ways 3 3
  else if code = 0x4 then .ways 4 5
  else if code = 0x5 then .ways 6 7
  else if code = 0x6 then .ways 8 15
  else if code = 0x7 then .reserved
  else if code = 0x8 then .ways 16 31
  else if code = 0x9 then .seeFn8000_001D
  else if code = 0xA then .ways 32 47
  else if code = 0xB then .ways 48 63
  else if code = 0xC then .ways 64 95
  else if code = 0xD then .ways 96 127
  else if code = 0xE then .moreThan128
  else .fully

/-- One-half of a number of entries, where it is even: the spec does not say how an odd one rounds (R216). -/
def half (n : Nat) : Option Nat := if n % 2 = 0 then some (n / 2) else none

/-- The entries for 4-MB pages of an L1 TLB: one-half of the size field (R216). -/
def entriesFor4M (size : BitVec 8) : Option Nat := half size.toNat

/-- The entries of an L2 TLB: 32 times the field when `L2TlbSizeX32` is 1 and the field is one of those it affects, a
set the spec leaves open, so `affected` is a premise of the reader (45_ext_fn1D_to_fn26.md R313). DESIGN CHOICE (log
entry 44): the count is of the size field alone. Of a TLB that the associativity 0h says is disabled, whose size field
has no stated meaning (43_ext_fn0_to_fn8.md R222, R223), it is a count all the same. -/
def l2TlbEntries (cfg : Cfg) (affected : Bool) (size : BitVec 12) : Nat :=
  if affected && cfg.Fn8000_0021_EAX.L2TlbSizeX32 == 1 then 32 * size.toNat else size.toNat

/-- The entries for 4-MB pages of an L2 TLB: one-half of its entries for 2-MB pages (R223), which the premise `affected`
of `l2TlbEntries` settles (R313). That the half is taken after the scaling is DEDUCED (log entry 41). Like
`l2TlbEntries` it does not look at the associativity: DESIGN CHOICE (log entry 44). -/
def l2EntriesFor4M (cfg : Cfg) (affected : Bool) (size : BitVec 12) : Option Nat := half (l2TlbEntries cfg affected size)

/-- A cache size reported in KB, in bytes (00_scope.md R9; R218, R219, R225). -/
def kilobytes {w : Nat} (size : BitVec w) : Nat := 1024 * size.toNat

/-- The least and the first too large L3 cache size in bytes (R226). -/
def l3SizeRange (r : Record.Fn8000_0006_EDX) : Nat × Nat := (r.L3Size.toNat * 524288, (r.L3Size.toNat + 1) * 524288)

/-! ## Capacity parameters (43_ext_fn0_to_fn8.md R236, R238) -/

/-- The maximum guest physical address size in bits (R236). -/
def guestPhysAddrBits (r : Record.Fn8000_0008_EAX) : Nat :=
  if r.GuestPhysAddrSize = 0 then r.PhysAddrSize.toNat else r.GuestPhysAddrSize.toNat

/-- The size of the performance time-stamp counter in bits: `40 + 8 * PerfTscSize`, an inference of R238 (log entry
41). `PerfTscSize` has a meaning only where `Fn8000_0001_ECX[PerfTsc]` is 1 (R238). DESIGN CHOICE (log entry 45): the
formula is applied whatever that bit is. -/
def perfTscBits (r : Record.Fn8000_0008_ECX) : Nat := 40 + 8 * r.PerfTscSize.toNat

/-! ## Lightweight profiling (44_ext_fn9_to_fn1C.md R269, R270) -/

/-- The size of the LWPCB in bytes: `8 * LwpCbSize` (R269). -/
def lwpcbBytes (r : Record.Fn8000_001C_EBX) : Nat := 8 * r.LwpCbSize.toNat

/-- The event records the smallest ring buffer holds: `32 * LwpMinBufferSize` (R270). -/
def lwpMinRecords (r : Record.Fn8000_001C_ECX) : Nat := 32 * r.LwpMinBufferSize.toNat

/-- The bytes of the smallest ring buffer: `32 * LwpMinBufferSize * LwpEventSize` (R270). -/
def lwpMinBytes (cfg : Cfg) : Nat := lwpMinRecords cfg.Fn8000_001C_ECX * cfg.Fn8000_001C_EBX.LwpEventSize.toNat

/-! ## Cache topology (45_ext_fn1D_to_fn26.md R282 to R284, R292, R293, R311) -/

/-- The least `s` with `2^s >= n`, for the `n` up to 4096 that the fields can announce (R282, R292). -/
def ceilLog2 (n : Nat) : Nat := ((List.range 13).find? fun s => decide (n ≤ 2 ^ s)).getD 12

/-- `ShareId = LocalApicId >> log2(sharers)`, the number of sharers rounded up to a power of two (R282, R292). The
source writes `LocalApicId`, a field of 8 bits. Whether a 32-bit identifier is meant on systems with more than 256
logical processors is not stated (R282, 91_not_in_source.md N14). DESIGN CHOICE (log entry 43): the identifier, of
whatever width, is the reader's argument. -/
def shareId {w : Nat} (apicId : BitVec w) (sharers : Nat) : BitVec w := apicId >>> ceilLog2 sharers

/-- The logical processors that share a cache: `NumSharingCache + 1` (R282). -/
def cacheSharers (c : Record.Cache) : Nat := c.EAX.NumSharingCache.toNat + 1

/-- The meanings of `CacheType` (R282). -/
inductive CacheTypeMeaning where
  /-- "Null; no more caches." -/
  | null
  | data
  | instruction
  | unified
  | reserved
  deriving DecidableEq, Repr

/-- The meaning of a `CacheType` (R282). -/
def cacheTypeMeaning (t : BitVec 5) : CacheTypeMeaning :=
  if t = 0 then .null
  else if t = 1 then .data
  else if t = 2 then .instruction
  else if t = 3 then .unified
  else .reserved

/-- The level a `CacheLevel` names, 1 to 3; the other values are reserved (R282). -/
def cacheLevelMeaning (l : BitVec 3) : Option Nat := if l = 1 ∨ l = 2 ∨ l = 3 then some l.toNat else none

/-- The ways of a cache: `CacheNumWays + 1` (R283). -/
def cacheWays (c : Record.Cache) : Nat := c.EBX.CacheNumWays.toNat + 1

/-- The physical line partitions: `CachePhysPartitions + 1` (R283). -/
def cachePartitions (c : Record.Cache) : Nat := c.EBX.CachePhysPartitions.toNat + 1

/-- The bytes of a line: `CacheLineSize + 1` (R283). -/
def cacheLineBytes (c : Record.Cache) : Nat := c.EBX.CacheLineSize.toNat + 1

/-- The sets of a cache: `CacheNumSets + 1`, of a cache that is not fully associative (R284, conflict C9). -/
def cacheSets (c : Record.Cache) : Option Nat :=
  if c.EAX.FullyAssociative = 0 then some (c.ECX.CacheNumSets.toNat + 1) else none

/-- The bytes of a set-associative cache, the product that R284 marks as general knowledge (log entry 29). -/
def cacheBytes (c : Record.Cache) : Option Nat :=
  (cacheSets c).map fun sets => cacheWays c * cachePartitions c * cacheLineBytes c * sets

/-- The threads of a compute unit: `ThreadsPerComputeUnit + 1` (R292). -/
def threadsPerUnit (r : Record.Fn8000_001E_EBX) : Nat := r.ThreadsPerComputeUnit.toNat + 1

/-- The nodes of the package: `NodesPerProcessor + 1` (R293). -/
def nodesPerPackage (r : Record.Fn8000_001E_ECX) : Nat := r.NodesPerProcessor.toNat + 1

/-- The size of the microcode patch in bytes, when the field gives it (R311). -/
def patchBytes (r : Record.Fn8000_0021_EBX) : Option Nat :=
  if r.MicrocodePatchSize = 0 then none else some (16 * r.MicrocodePatchSize.toNat)

/-- A bound of the size of the microcode patch that always holds: 5568 bytes when the field is 0 (R311). -/
def patchBound (r : Record.Fn8000_0021_EBX) : Nat := (patchBytes r).getD 5568

/-! ## Logical processors per package (46_multiprocessor_calculation.md R340 to R343) -/

/-- `n`, the actual number of logical processors per package: `NC + 1` (R340). -/
def logicalProcessors (cfg : Cfg) : Nat := cfg.Fn8000_0008_ECX.NC.toNat + 1

/-- `MNLP`, the maximum possible number of logical processors per package (R342). -/
def mnlp (cfg : Cfg) : Nat :=
  if cfg.Fn8000_0008_ECX.ApicIdSize = 0 then cfg.Fn8000_0008_ECX.NC.toNat + 1
  else 2 ^ cfg.Fn8000_0008_ECX.ApicIdSize.toNat

/-- The number of logical processors by the legacy method (R341); the combinations that Table E-5 does not have give
nothing (R343). -/
def legacyLogicalProcessors (cfg : Cfg) : Option Nat :=
  if cfg.Fn0000_0001_EDX.HTT = 0 ∧ cfg.Fn8000_0001_ECX.CmpLegacy = 0 then some 1
  else if cfg.Fn0000_0001_EDX.HTT = 1 ∧ cfg.Fn8000_0001_ECX.CmpLegacy = 1 then
    some cfg.Fn0000_0001_EBX.LogicalProcessorCount.toNat
  else none

/-- The logical processor ID within the package: `LocalApicId & ((1 << ApicIdSize) - 1)`, an inference of R342 (log
entry 41). -/
def idInPackage (cfg : Cfg) : Nat :=
  cfg.Fn0000_0001_EBX.LocalApicId.toNat % 2 ^ cfg.Fn8000_0008_ECX.ApicIdSize.toNat

/-- The package ID: `LocalApicId >> ApicIdSize`, an inference of R342 (log entry 41). -/
def packageIdOfLocal (cfg : Cfg) : BitVec 8 :=
  cfg.Fn0000_0001_EBX.LocalApicId >>> cfg.Fn8000_0008_ECX.ApicIdSize.toNat

end Sys2Proof.Machine
end

