-- ==== Sys2Proof/Machine/Enumerate.lean ====
section
/-! DEFINITION. The enumeration loops of software (42_std_fnB_to_fn10.md R148, 45_ext_fn1D_to_fn26.md R280, R336,
R337).

The hardware runs none of them. Each iteration loads EAX and ECX, which CPUID overwrites (70_reset_and_hazards.md R375),
executes CPUID, and looks at what it returned. -/

namespace Sys2Proof.Machine

/-- The four registers as CPUID left them. -/
def State.results (s : State) : Regs4 := ⟨s.readReg .eax, s.readReg .ebx, s.readReg .ecx, s.readReg .edx⟩

/-- CPUID with a function number in EAX and a subfunction in ECX, as the preceding instructions of a program load them
(30_encoding.md R59). -/
def State.cpuidWith (s : State) (fn sub : Word) : Host.Outcome State Fault Refusal :=
  exec .cpuid ((s.writeReg .eax fn).writeReg .ecx sub)

/-- The loop "with increasing ECX values" from `n` on: the return values before the one at which `stop` holds. The
`fuel` bounds the executions; `none` when it runs out or an execution does not complete. -/
def enumerateFrom (fn : Word) (stop : Regs4 → Bool) (n : Nat) : Nat → State → Option (List Regs4)
  | 0, _ => none
  | fuel + 1, s =>
    match s.cpuidWith fn (BitVec.ofNat 32 n) with
    | .next t => if stop t.results then some [] else (enumerateFrom fn stop (n + 1) fuel t).map (t.results :: ·)
    | .fault _ => none
    | .refused _ => none

/-- The end of the caches: "a value of 00h is returned in the field CacheType (EAX[4:0])" (R280). -/
def noMoreCaches (v : Regs4) : Bool := v.eax.extractLsb' 0 5 == 0

/-- The end of the levels of function 8000_0026h: `c[15:8] = 0` (R336). -/
def noMoreLevels (v : Regs4) : Bool := v.ecx.extractLsb' 8 8 == 0

/-- The end of the levels of function Bh: EAX reads zero (R148). -/
def noMoreLevelsOfFnB (v : Regs4) : Bool := v.eax == 0

end Sys2Proof.Machine
end

