-- ==== Sys2Proof/Machine/FunctionMap.lean ====
section
/-! DEFINITION. The function map (30_encoding.md R53) as data: the 65 leaf rows of spec/opcode_table.json, in its order.

The map and `leafEntry` are two descriptions of the same dispatch: the map row by row, as R53 and R54 to R56 print it,
`leafEntry` in the order of evaluation of R75. `entryByMap` is what the map says an execution returns. -/

namespace Sys2Proof.Machine

/-- The class of a row (R53). -/
inductive RowClass where
  | defined
  | reserved
  | reservedForHypervisor
  | notDescribed
  deriving DecidableEq, Repr

/-- The gate of a row (R53, 40_cpuid_instruction.md R78). -/
inductive Gate where
  | none
  | PQM
  | PQE
  | SVM
  | IBS
  | LWP
  | TopologyExtensions
  | L3MBE
  | L3SMBE
  | BMEC
  | ABMC
  deriving DecidableEq, Repr

/-- The gating bit is 1 (R78). -/
def Gate.isOpen (cfg : Cfg) : Gate → Bool
  | .none => true
  | .PQM => cfg.Fn0000_0007_EBX_x0.PQM == 1
  | .PQE => cfg.Fn0000_0007_EBX_x0.PQE == 1
  | .SVM => cfg.Fn8000_0001_ECX.SVM == 1
  | .IBS => cfg.Fn8000_0001_ECX.IBS == 1
  | .LWP => cfg.Fn8000_0001_ECX.LWP == 1
  | .TopologyExtensions => cfg.Fn8000_0001_ECX.TopologyExtensions == 1
  | .L3MBE => cfg.Fn8000_0020_EBX_x0.L3MBE == 1
  | .L3SMBE => cfg.Fn8000_0020_EBX_x0.L3SMBE == 1
  | .BMEC => cfg.Fn8000_0020_EBX_x0.BMEC == 1
  | .ABMC => cfg.Fn8000_0020_EBX_x0.ABMC == 1

/-- The subfunctions a row takes (the subfunction column of R53). -/
inductive SubSelector where
  /-- "ignored", or any. -/
  | any
  /-- One number. -/
  | exactly (n : Word)
  /-- "n and above". -/
  | atLeast (n : Word)
  /-- Subfunction 1 of function 7, when `Fn7_MaxSubFn` reaches it (R123). -/
  | fn7Supported
  /-- "2 and above" of function 7, and 1 when `Fn7_MaxSubFn = 0` (R133). -/
  | fn7Other
  /-- An implemented level of function Bh (R141, R142). -/
  | fnBLevel (n : Fin 2)
  /-- "unimplemented level" of function Bh (R148). -/
  | fnBUnimplemented
  /-- A described subfunction of function Dh that is implemented (R149). -/
  | fnDImplemented (n : Word)
  /-- "unimplemented" of function Dh (R151). -/
  | fnDUnimplemented
  /-- A subfunction of function Dh that the processor has and the source does not describe (R150). -/
  | fnDUndescribed
  /-- "above 3E" of function Dh (R168). -/
  | fnDAbove
  /-- "0 to NumCaches-1" (R281). -/
  | cache
  /-- "n >= NumCaches" (R287). -/
  | noCache
  /-- "0 to NumTopoLevels-1" (R331). -/
  | level
  /-- "n >= NumTopoLevels" (R337). -/
  | noLevel
  deriving DecidableEq, Repr

/-- The subfunction is one of the row's. -/
def SubSelector.selects (cfg : Cfg) (sub : Word) : SubSelector → Bool
  | .any => true
  | .exactly n => sub == n
  | .atLeast n => decide (n ≤ sub)
  | .fn7Supported => sub == 1 && decide (1 ≤ cfg.Fn7_MaxSubFn)
  | .fn7Other => decide (2 ≤ sub) || sub == 1 && cfg.Fn7_MaxSubFn == 0
  | .fnBLevel n => sub.toNat == n.val && decide (n.val < cfg.FnB_Levels.val)
  | .fnBUnimplemented => decide (cfg.FnB_Levels.val ≤ sub.toNat)
  | .fnDImplemented n => sub == n && cfg.fnDClass sub == .implemented
  | .fnDUnimplemented => decide (2 ≤ sub) && decide (sub ≤ 0x3E) && cfg.fnDClass sub == .unimplemented
  | .fnDUndescribed =>
    decide (2 ≤ sub) && decide (sub ≤ 0x3E) &&
      (cfg.fnDClass sub == .undescribed ||
        cfg.fnDClass sub == .implemented && !decide (sub.toNat ∈ describedSubfunctions))
  | .fnDAbove => decide (0x3E < sub)
  | .cache => decide (sub.toNat < cfg.NumCaches)
  | .noCache => decide (cfg.NumCaches ≤ sub.toNat)
  | .level => decide (sub.toNat < cfg.NumTopoLevels)
  | .noLevel => decide (cfg.NumTopoLevels ≤ sub.toNat)

/-- A row of the map: its function numbers, its subfunctions, its class, its gate, the rule it names first, and the
entry it returns when the function is in range and the gate open. -/
structure MapRow where
  fnFirst : Word
  fnLast : Word
  sub : SubSelector
  cls : RowClass
  gate : Gate
  rule : Nat
  entry : Cfg → Env → Word → Word → Entry

/-- The entry of a row that is reserved or not described (R54, R75, decision D6). -/
def drawsRow : Cfg → Env → Word → Word → Entry := fun _ _ _ _ => .draws4

/-- The entry of a row that has one definition for all its numbers. -/
def leafRow (e : Cfg → Env → Word → Entry) : Cfg → Env → Word → Word → Entry := fun cfg env _ sub => e cfg env sub

/-- The rows of the standard functions and of the range above them (R53). -/
def standardRows : List MapRow :=
  [ ⟨0x00000000, 0x00000000, .any, .defined, .none, 100, leafRow leaf0000_0000⟩,
    ⟨0x00000001, 0x00000001, .any, .defined, .none, 104, leafRow leaf0000_0001⟩,
    ⟨0x00000002, 0x00000004, .any, .reserved, .none, 110, drawsRow⟩,
    ⟨0x00000005, 0x00000005, .any, .defined, .none, 112, leafRow leaf0000_0005⟩,
    ⟨0x00000006, 0x00000006, .any, .defined, .none, 116, leafRow leaf0000_0006⟩,
    ⟨0x00000007, 0x00000007, .exactly 0, .defined, .none, 123, leafRow leaf0000_0007_x0⟩,
    ⟨0x00000007, 0x00000007, .fn7Supported, .defined, .none, 123, leafRow leaf0000_0007_x1⟩,
    ⟨0x00000007, 0x00000007, .fn7Other, .notDescribed, .none, 133, drawsRow⟩,
    ⟨0x00000008, 0x0000000A, .any, .reserved, .none, 140, drawsRow⟩,
    ⟨0x0000000B, 0x0000000B, .fnBLevel 0, .defined, .none, 141, leafRow leaf0000_000B_x0⟩,
    ⟨0x0000000B, 0x0000000B, .fnBLevel 1, .defined, .none, 141, leafRow leaf0000_000B_x1⟩,
    ⟨0x0000000B, 0x0000000B, .fnBUnimplemented, .defined, .none, 148, leafRow fun _ _ _ => leaf0000_000B_unimplemented⟩,
    ⟨0x0000000C, 0x0000000C, .any, .reserved, .none, 140, drawsRow⟩,
    ⟨0x0000000D, 0x0000000D, .exactly 0, .defined, .none, 149, leafRow leaf0000_000D_x0⟩,
    ⟨0x0000000D, 0x0000000D, .exactly 1, .defined, .none, 156, leafRow leaf0000_000D_x1⟩,
    ⟨0x0000000D, 0x0000000D, .fnDImplemented 0x02, .defined, .none, 160, leafRow leaf0000_000D_x2⟩,
    ⟨0x0000000D, 0x0000000D, .fnDImplemented 0x0B, .defined, .none, 163, leafRow leaf0000_000D_x0B⟩,
    ⟨0x0000000D, 0x0000000D, .fnDImplemented 0x0C, .defined, .none, 164, leafRow leaf0000_000D_x0C⟩,
    ⟨0x0000000D, 0x0000000D, .fnDImplemented 0x3E, .defined, .none, 165, leafRow leaf0000_000D_x3E⟩,
    ⟨0x0000000D, 0x0000000D, .fnDUnimplemented, .defined, .none, 151, leafRow fun _ _ _ => leaf0000_000D_zero⟩,
    ⟨0x0000000D, 0x0000000D, .fnDAbove, .defined, .none, 168, leafRow fun _ _ _ => leaf0000_000D_zero⟩,
    ⟨0x0000000D, 0x0000000D, .fnDUndescribed, .notDescribed, .none, 150, drawsRow⟩,
    ⟨0x0000000E, 0x0000000E, .any, .reserved, .none, 140, drawsRow⟩,
    ⟨0x0000000F, 0x0000000F, .exactly 0, .defined, .PQM, 170, leafRow leaf0000_000F_x0⟩,
    ⟨0x0000000F, 0x0000000F, .exactly 1, .defined, .PQM, 170, leafRow leaf0000_000F_x1⟩,
    ⟨0x0000000F, 0x0000000F, .atLeast 2, .notDescribed, .PQM, 173, drawsRow⟩,
    ⟨0x00000010, 0x00000010, .exactly 0, .defined, .PQE, 175, leafRow leaf0000_0010_x0⟩,
    ⟨0x00000010, 0x00000010, .exactly 1, .defined, .PQE, 175, leafRow leaf0000_0010_x1⟩,
    ⟨0x00000010, 0x00000010, .atLeast 2, .notDescribed, .PQE, 178, drawsRow⟩,
    ⟨0x00000011, 0x3FFFFFFF, .any, .notDescribed, .none, 75, drawsRow⟩ ]

/-- The rows between the two ranges (R53, 42_std_fnB_to_fn10.md R180). -/
def middleRows : List MapRow :=
  [ ⟨0x40000000, 0x400000FF, .any, .reservedForHypervisor, .none, 180, drawsRow⟩,
    ⟨0x40000100, 0x7FFFFFFF, .any, .notDescribed, .none, 75, drawsRow⟩ ]

/-- The three functions of the name string (43_ext_fn0_to_fn8.md R213). -/
def nameRow (cfg : Cfg) (env : Env) (fn sub : Word) : Entry :=
  if fn = 0x80000002 then leaf8000_0002 cfg env sub
  else if fn = 0x80000003 then leaf8000_0003 cfg env sub
  else leaf8000_0004 cfg env sub

/-- The rows of the extended functions and of the range above them (R53). -/
def extendedRows : List MapRow :=
  [ ⟨0x80000000, 0x80000000, .any, .defined, .none, 200, leafRow leaf8000_0000⟩,
    ⟨0x80000001, 0x80000001, .any, .defined, .none, 203, leafRow leaf8000_0001⟩,
    ⟨0x80000002, 0x80000004, .any, .defined, .none, 213, nameRow⟩,
    ⟨0x80000005, 0x80000005, .any, .defined, .none, 215, leafRow leaf8000_0005⟩,
    ⟨0x80000006, 0x80000006, .any, .defined, .none, 222, leafRow leaf8000_0006⟩,
    ⟨0x80000007, 0x80000007, .any, .defined, .none, 230, leafRow leaf8000_0007⟩,
    ⟨0x80000008, 0x80000008, .any, .defined, .none, 236, leafRow leaf8000_0008⟩,
    ⟨0x80000009, 0x80000009, .any, .reserved, .none, 250, drawsRow⟩,
    ⟨0x8000000A, 0x8000000A, .any, .defined, .SVM, 251, leafRow leaf8000_000A⟩,
    ⟨0x8000000B, 0x80000018, .any, .reserved, .none, 250, drawsRow⟩,
    ⟨0x80000019, 0x80000019, .any, .defined, .none, 257, leafRow leaf8000_0019⟩,
    ⟨0x8000001A, 0x8000001A, .any, .defined, .none, 261, leafRow leaf8000_001A⟩,
    ⟨0x8000001B, 0x8000001B, .any, .defined, .IBS, 264, leafRow leaf8000_001B⟩,
    ⟨0x8000001C, 0x8000001C, .any, .defined, .LWP, 267, leafRow leaf8000_001C⟩,
    ⟨0x8000001D, 0x8000001D, .cache, .defined, .TopologyExtensions, 280, leafRow leaf8000_001D⟩,
    ⟨0x8000001D, 0x8000001D, .noCache, .defined, .TopologyExtensions, 287, leafRow fun _ _ _ => leaf8000_001D_null⟩,
    ⟨0x8000001E, 0x8000001E, .any, .defined, .TopologyExtensions, 290, leafRow leaf8000_001E⟩,
    ⟨0x8000001F, 0x8000001F, .any, .defined, .none, 295, leafRow leaf8000_001F⟩,
    ⟨0x80000020, 0x80000020, .exactly 0, .defined, .none, 300, leafRow leaf8000_0020_x0⟩,
    ⟨0x80000020, 0x80000020, .exactly 1, .defined, .L3MBE, 302, leafRow leaf8000_0020_x1⟩,
    ⟨0x80000020, 0x80000020, .exactly 2, .defined, .L3SMBE, 303, leafRow leaf8000_0020_x2⟩,
    ⟨0x80000020, 0x80000020, .exactly 3, .defined, .BMEC, 304, leafRow leaf8000_0020_x3⟩,
    ⟨0x80000020, 0x80000020, .exactly 4, .notDescribed, .none, 306, drawsRow⟩,
    ⟨0x80000020, 0x80000020, .exactly 5, .defined, .ABMC, 305, leafRow leaf8000_0020_x5⟩,
    ⟨0x80000020, 0x80000020, .atLeast 6, .notDescribed, .none, 306, drawsRow⟩,
    ⟨0x80000021, 0x80000021, .any, .defined, .none, 310, leafRow leaf8000_0021⟩,
    ⟨0x80000022, 0x80000022, .any, .defined, .none, 315, leafRow leaf8000_0022⟩,
    ⟨0x80000023, 0x80000023, .any, .defined, .none, 320, leafRow leaf8000_0023⟩,
    ⟨0x80000024, 0x80000024, .any, .reserved, .none, 324, drawsRow⟩,
    ⟨0x80000025, 0x80000025, .any, .defined, .none, 325, leafRow leaf8000_0025⟩,
    ⟨0x80000026, 0x80000026, .level, .defined, .none, 330, leafRow leaf8000_0026⟩,
    ⟨0x80000026, 0x80000026, .noLevel, .defined, .none, 337, leafRow fun _ _ sub => leaf8000_0026_end sub⟩,
    ⟨0x80000027, 0xFFFFFFFF, .any, .notDescribed, .none, 75, drawsRow⟩ ]

/-- The whole map (R53), in the order of spec/opcode_table.json. -/
def functionMap : List MapRow := standardRows ++ middleRows ++ extendedRows

/-- The row takes the pair (function number, subfunction). -/
def MapRow.selects (cfg : Cfg) (fn sub : Word) (r : MapRow) : Bool :=
  decide (r.fnFirst ≤ fn) && decide (fn ≤ r.fnLast) && r.sub.selects cfg sub

/-- The function number lies in the supported part of its range (40_cpuid_instruction.md R73, R74). The numbers between
the ranges belong to neither, and are not compared. -/
def inSupportedRange (cfg : Cfg) (fn : Word) : Bool :=
  if fn < 0x40000000 then decide (fn ≤ cfg.LFuncStd)
  else if fn < 0x80000000 then true
  else decide (fn ≤ cfg.LFuncExt)

/-- What the map says an execution returns: the entry of the row that takes the pair, when the function is in range and
the row's gate open; four draws otherwise (R53, R54). -/
def entryByMap (cfg : Cfg) (env : Env) (fn sub : Word) : Entry :=
  match functionMap.find? (MapRow.selects cfg fn sub) with
  | some r => if inSupportedRange cfg fn && r.gate.isOpen cfg then r.entry cfg env fn sub else .draws4
  | none => .draws4

end Sys2Proof.Machine
end

