-- ==== Sys2Proof/Safety.lean ====
section
/-! DEFINITION. What counts as a state of this hardware, a run that may execute, and a frame: the terms that statements
use. -/

namespace Sys2Proof

open Sys2Proof.Machine

/-! ## Legal states -/

/-- `env` is one that the spec allows beside the record: a bit of `XCR0` may be 1 only where `XFeatureSupportedMask` has
a 1 (10_state.md R27); of the two bits of `XSS[31:0]` the source defines, each only where `Fn0000_000D_ECX_x1` has a 1
(R28); the `CpuidUserDis` facility is on only where it exists (60_exceptions.md R352). -/
def Machine.Env.legalFor (env : Machine.Env) (cfg : Cfg) : Bool :=
  env.XCR0 &&& ~~~cfg.xFeatureSupportedMask == 0 &&
    env.XSS.extractLsb' 11 1 &&& ~~~cfg.Fn0000_000D_ECX_x1.CET_U == 0 &&
    env.XSS.extractLsb' 12 1 &&& ~~~cfg.Fn0000_000D_ECX_x1.CET_S == 0 &&
    (env.CpuidUserDisEnabled == 0 || cfg.Fn8000_0021_EAX.CpuidUserDis == 1)

/-- The program counter fits the width of the instruction pointer (10_state.md R22). -/
def Machine.State.pcFits (s : Machine.State) : Bool := decide (s.pc.toNat < 2 ^ s.ipWidth.bits)

/-- What holds of every state of this hardware, and every step keeps. -/
structure Machine.State.Inv (s : Machine.State) : Prop where
  /-- The memory is in its canonical form. -/
  memory : s.mem.wf = true
  /-- The record is a configuration of this hardware (R25). -/
  configuration : s.cfg.wellFormed = true
  /-- `env` is legal beside it. -/
  environment : s.env.legalFor s.cfg = true
  /-- `pc` is a number of W bits. -/
  counter : s.pcFits = true

/-! ## Executions -/

/-- CPUID may execute in this state: the `CpuidUserDis` facility does not stop it (60_exceptions.md R352). -/
abbrev Machine.State.mayExecute (s : Machine.State) : Prop := s.env.CpuidUserDisEnabled = 0 ∨ s.env.CPL = 0

/-- The four return registers hold `v`. -/
def Machine.State.holds (s : Machine.State) (v : Regs4) : Prop :=
  s.readReg .eax = v.eax ∧ s.readReg .ebx = v.ebx ∧ s.readReg .ecx = v.ecx ∧ s.readReg .edx = v.edx

/-- The upper halves of the four containing registers hold `v`. -/
def Machine.State.upperHolds (s : Machine.State) (v : Regs4) : Prop :=
  s.rax.extractLsb' 32 32 = v.eax ∧ s.rbx.extractLsb' 32 32 = v.ebx ∧ s.rcx.extractLsb' 32 32 = v.ecx ∧
    s.rdx.extractLsb' 32 32 = v.edx

/-- Everything the model holds but the four registers, `pc` and the model's own counter is the same in both states, each
byte of memory included. -/
structure Machine.sameButResults (s t : Machine.State) : Prop where
  width : t.ipWidth = s.ipWidth
  flags : t.eflags = s.eflags
  configuration : t.cfg = s.cfg
  policy : t.upperHalfPolicy = s.upperHalfPolicy
  environment : t.env = s.env
  apicId : t.apicIdRegister = s.apicIdRegister
  bytes : ∀ a, t.mem.read a = s.mem.read a

/-- An execution of CPUID with `fn` in EAX and `sub` in ECX completes and returns `v` (40_cpuid_instruction.md R70). -/
def Machine.State.returns (s : Machine.State) (v : Regs4) : Prop :=
  ∃ t, Machine.exec .cpuid s = .next t ∧ t.holds v

/-- The execution completes and returns nothing of which anything is promised: all four registers are draws. -/
def Machine.State.returnsDraws (s : Machine.State) : Prop := s.returns s.draws4

/-! ## Function numbers -/

/-- The eight functions that take a subfunction in ECX (40_cpuid_instruction.md R71). -/
def Machine.subfunctionFunctions : List Word :=
  [0x00000007, 0x0000000B, 0x0000000D, 0x0000000F, 0x00000010, 0x8000001D, 0x80000020, 0x80000026]

/-- The function numbers the source declares reserved (30_encoding.md R54, first kind). -/
def Machine.isReservedFunction (fn : Word) : Bool :=
  decide (0x2 ≤ fn ∧ fn ≤ 0x4 ∨ 0x8 ≤ fn ∧ fn ≤ 0xA ∨ fn = 0xC ∨ fn = 0xE ∨ fn = 0x80000009 ∨
    0x8000000B ≤ fn ∧ fn ≤ 0x80000018 ∨ fn = 0x80000024)

/-- The function numbers reserved for the virtual machine monitor (42_std_fnB_to_fn10.md R180). -/
def Machine.isHypervisorFunction (fn : Word) : Bool := decide (0x40000000 ≤ fn ∧ fn ≤ 0x400000FF)

/-- The function numbers the source describes nowhere (40_cpuid_instruction.md R75, 30_encoding.md R53). -/
def Machine.isUndescribedFunction (fn : Word) : Bool :=
  decide (0x11 ≤ fn ∧ fn ≤ 0x3FFFFFFF ∨ 0x40000100 ≤ fn ∧ fn ≤ 0x7FFFFFFF ∨ 0x80000027 ≤ fn)

/-! ## Comparing results -/

/-- The complement of four masks. -/
def Machine.Regs4.complement (m : Regs4) : Regs4 := ⟨~~~m.eax, ~~~m.ebx, ~~~m.ecx, ~~~m.edx⟩

/-- Both states give CPUID the same inputs: EAX, ECX, the record and `env` (40_cpuid_instruction.md R82). -/
structure Machine.sameInputs (s s' : Machine.State) : Prop where
  function : s'.readReg .eax = s.readReg .eax
  subfunction : s'.readReg .ecx = s.readReg .ecx
  configuration : s'.cfg = s.cfg
  environment : s'.env = s.env

/-- Two values agree on the bits of a mask. -/
def agreeOn (mask v w : Word) : Prop := v &&& mask = w &&& mask

/-- Two quadruples agree on the bits of four masks. -/
def agreeOn4 (mask v w : Regs4) : Prop :=
  agreeOn mask.eax v.eax w.eax ∧ agreeOn mask.ebx v.ebx w.ebx ∧ agreeOn mask.ecx v.ecx w.ecx ∧
    agreeOn mask.edx v.edx w.edx

/-- The run of a safe program does not stop: each of its next `k` steps is a next state. -/
def Machine.State.runs (s : Machine.State) (k : Nat) : Prop := ∃ t, Host.Core.run core k s = .next t

/-- The bytes of `CPUID` stand where the next step fetches them (20_memory.md R44, 30_encoding.md R50). -/
abbrev Machine.State.textIsCpuid (s : Machine.State) : Prop :=
  s.mem.read (s.fetchAddress 0) = some 0x0F ∧ s.mem.read (s.fetchAddress 1) = some 0xA2

end Sys2Proof
end

