-- ==== Sys2Proof/Certificates/Slice0/Obligations.lean ====
section
/-! DEFINITION. The statements for the provers. Each docstring says what the statement claims; the numbered rules and
the quotations are in OBLIGATIONS.json. A statement that names a decision of spec/92_eei_decisions.md, or a log entry,
rests on that choice. -/

section

open Sys2Proof Sys2Proof.Machine

/-- In every state in which the CpuidUserDis facility does not stop it, whatever EAX and ECX hold, CPUID answers a
next state: EAX, EBX, ECX and EDX hold the four values of Leaf at the function number and subfunction that EAX and ECX
held before, pc is two bytes further modulo 2^W, the execution counter of the model is one more, and the instruction
pointer's width, the flags, cfg, the upper-half policy, env, the local APIC ID register and every byte of memory are
as before. It formalises the spec's decisions D2, D3, D4, D16 and D17 (log entries 12 to 15, 19). -/
def Obligations.CpuidCompletes : Prop :=
  ∀ s : State, s.mayExecute →
    ∃ t, exec .cpuid s = .next t ∧
      t.holds (leaf s.cfg s.env s.draws4 (s.readReg .eax) (s.readReg .ecx)) ∧
      t.pc = s.ipWidth.wrap (s.pc + 2) ∧ t.drawCount = s.drawCount + 1 ∧ sameButResults s t

/-- CPUID ends in Fault(GP, 0) exactly when the CpuidUserDis facility is enabled and the privilege level is above 0,
whatever EAX and ECX hold; it raises nothing else and refuses nothing. It formalises the spec's decisions D16 and D17
(log entry 15). -/
def Obligations.CpuidFaultsWhenDisabled : Prop :=
  ∀ s : State,
    (exec .cpuid s = .fault (.gp 0) ↔ s.env.CpuidUserDisEnabled = 1 ∧ 0 < s.env.CPL) ∧
      (∀ e, exec .cpuid s = .fault e → e = .gp 0) ∧ ∀ r, exec .cpuid s ≠ .refused r

/-- When CPUID completes, bits 63:32 of RAX, RBX, RCX and RDX are 0 under the policy zero and four draws of this
execution under the policy draw. It formalises the spec's decision D1 (log entry 3). -/
def Obligations.CpuidUpperHalves : Prop :=
  ∀ s : State, s.mayExecute →
    ∃ t, exec .cpuid s = .next t ∧
      (s.upperHalfPolicy = .zero → t.upperHolds ⟨0, 0, 0, 0⟩) ∧
      (s.upperHalfPolicy = .draw → t.upperHolds ⟨s.drawWord 4, s.drawWord 5, s.drawWord 6, s.drawWord 7⟩)

/-- Two states with the same EAX, ECX, cfg and env, and the same number of executions before, get the same four values
from CPUID, whatever EBX, EDX, the upper halves, pc, its width, the flags, the APIC ID register and memory hold. It
formalises the spec's decisions D1 and D7 (log entries 3 and 16). -/
def Obligations.ResultsDependOnInputsOnly : Prop :=
  ∀ s s' : State, s.mayExecute → sameInputs s s' → s'.drawCount = s.drawCount →
    ∃ t t', exec .cpuid s = .next t ∧ exec .cpuid s' = .next t' ∧ t'.holds t.results

/-- Two executions of CPUID with the same EAX, ECX, cfg and env return values that agree on every bit of the defined
masks of the entry, whatever the draws of the two executions are. It formalises the spec's decision D14 (log entry
17). -/
def Obligations.EqualInputsEqualFields : Prop :=
  ∀ s s' : State, s.mayExecute → sameInputs s s' →
    ∃ t t', exec .cpuid s = .next t ∧ exec .cpuid s' = .next t' ∧
      agreeOn4 (leafEntry s.cfg s.env (s.readReg .eax) (s.readReg .ecx)).definedMask t.results t'.results

/-- Outside the defined masks of the entry, the four values CPUID returns are the draws of this execution, so nothing
is promised of them. It formalises the spec's decision D5 in the model's form (log entry 1). -/
def Obligations.ReservedBitsAreDraws : Prop :=
  ∀ s : State, s.mayExecute →
    ∃ t, exec .cpuid s = .next t ∧
      agreeOn4 (leafEntry s.cfg s.env (s.readReg .eax) (s.readReg .ecx)).definedMask.complement t.results s.draws4

/-- For every function number but the eight that take a subfunction, two states that differ in ECX, and agree in EAX,
cfg, env and the number of executions before, get the same four values from CPUID. It formalises the spec's decision
D7 (log entry 16). -/
def Obligations.EcxIgnoredWithoutSubfunction : Prop :=
  ∀ s s' : State, s.mayExecute → s.readReg .eax ∉ subfunctionFunctions → s'.readReg .eax = s.readReg .eax →
    s'.cfg = s.cfg → s'.env = s.env → s'.drawCount = s.drawCount →
    ∃ t t', exec .cpuid s = .next t ∧ exec .cpuid s' = .next t' ∧ t'.holds t.results

/-- CPUID with 0 in EAX, executed twice without reloading EAX: the second execution returns Leaf at the function
number LFuncStd and the subfunction 444D_4163h, its reserved bits drawn afresh. -/
def Obligations.SecondCpuidRunsReturnedFunction : Prop :=
  ∀ s : State, s.mayExecute → s.readReg .eax = 0 →
    ∃ t u, exec .cpuid s = .next t ∧ exec .cpuid t = .next u ∧
      u.holds (leaf s.cfg s.env t.draws4 s.cfg.LFuncStd 0x444D4163)

/-- A function number that the source declares reserved, reserves for the hypervisor, or describes nowhere completes
with all four registers draws, whatever ECX, LFuncStd and LFuncExt are. It formalises the spec's decisions D6 and D15
(log entries 18 and 22). -/
def Obligations.ReservedFunctionsReturnDraws : Prop :=
  ∀ s : State, s.mayExecute →
    (isReservedFunction (s.readReg .eax) = true ∨ isHypervisorFunction (s.readReg .eax) = true ∨
      isUndescribedFunction (s.readReg .eax) = true) →
    s.returnsDraws

/-- A standard function number above LFuncStd, or an extended one above LFuncExt, completes with all four registers
draws, whatever its gate is. It formalises the spec's decisions D6 and D24 (log entry 18). -/
def Obligations.OutOfRangeFunctionsReturnDraws : Prop :=
  ∀ s : State, s.mayExecute →
    (s.readReg .eax < 0x40000000 ∧ s.cfg.LFuncStd < s.readReg .eax ∨
      0x80000000 ≤ s.readReg .eax ∧ s.cfg.LFuncExt < s.readReg .eax) →
    s.returnsDraws

/-- Functions Fh, 10h, 8000_000Ah, 8000_001Bh, 8000_001Ch, 8000_001Dh, 8000_001Eh and subfunctions 1, 2, 3, 5 of
8000_0020h complete with all four registers draws when the gating bit PQM, PQE, SVM, IBS, LWP, TopologyExtensions,
TopologyExtensions, L3MBE, L3SMBE, BMEC or ABMC of cfg is 0. It formalises the spec's decision D6 (log entry 18). -/
def Obligations.ClosedGatesReturnDraws : Prop :=
  ∀ s : State, s.mayExecute →
    (s.readReg .eax = 0x0000000F ∧ s.cfg.Fn0000_0007_EBX_x0.PQM = 0 ∨
      s.readReg .eax = 0x00000010 ∧ s.cfg.Fn0000_0007_EBX_x0.PQE = 0 ∨
      s.readReg .eax = 0x8000000A ∧ s.cfg.Fn8000_0001_ECX.SVM = 0 ∨
      s.readReg .eax = 0x8000001B ∧ s.cfg.Fn8000_0001_ECX.IBS = 0 ∨
      s.readReg .eax = 0x8000001C ∧ s.cfg.Fn8000_0001_ECX.LWP = 0 ∨
      s.readReg .eax = 0x8000001D ∧ s.cfg.Fn8000_0001_ECX.TopologyExtensions = 0 ∨
      s.readReg .eax = 0x8000001E ∧ s.cfg.Fn8000_0001_ECX.TopologyExtensions = 0 ∨
      s.readReg .eax = 0x80000020 ∧ s.readReg .ecx = 1 ∧ s.cfg.Fn8000_0020_EBX_x0.L3MBE = 0 ∨
      s.readReg .eax = 0x80000020 ∧ s.readReg .ecx = 2 ∧ s.cfg.Fn8000_0020_EBX_x0.L3SMBE = 0 ∨
      s.readReg .eax = 0x80000020 ∧ s.readReg .ecx = 3 ∧ s.cfg.Fn8000_0020_EBX_x0.BMEC = 0 ∨
      s.readReg .eax = 0x80000020 ∧ s.readReg .ecx = 5 ∧ s.cfg.Fn8000_0020_EBX_x0.ABMC = 0) →
    s.returnsDraws

/-- Function 7 with ECX at least 2, or 1 when Fn7_MaxSubFn is 0; functions Fh and 10h with ECX at least 2; function
8000_0020h with ECX 4 or at least 6; and function Dh with ECX in 02h to 3Eh at a subfunction of class undescribed:
each completes with all four registers draws. All 32 bits of ECX count. It formalises the spec's decisions D7, D9, D10
and D11 (log entries 16, 20, 21). -/
def Obligations.OtherSubfunctionsReturnDraws : Prop :=
  ∀ s : State, s.mayExecute →
    (s.readReg .eax = 0x00000007 ∧
        (2 ≤ s.readReg .ecx ∨ s.readReg .ecx = 1 ∧ s.cfg.Fn7_MaxSubFn = 0) ∨
      (s.readReg .eax = 0x0000000F ∨ s.readReg .eax = 0x00000010) ∧ 2 ≤ s.readReg .ecx ∨
      s.readReg .eax = 0x80000020 ∧ (s.readReg .ecx = 4 ∨ 6 ≤ s.readReg .ecx) ∨
      s.readReg .eax = 0x0000000D ∧ 2 ≤ s.readReg .ecx ∧ s.readReg .ecx ≤ 0x3E ∧
        s.cfg.fnDClass (s.readReg .ecx) = .undescribed) →
    s.returnsDraws

/-- With 0 in EAX, CPUID returns LFuncStd in EAX and the constants 6874_7541h, 444D_4163h, 6974_6E65h in EBX, ECX,
EDX; their characters in the order EBX, EDX, ECX are AuthenticAMD. -/
def Obligations.Function0000_0000 : Prop :=
  ∀ s : State, s.mayExecute → s.readReg .eax = 0x00000000 →
    ∃ t, exec .cpuid s = .next t ∧
      t.readReg .eax = s.cfg.LFuncStd ∧
      t.readReg .ebx = 0x68747541 ∧
      t.readReg .ecx = 0x444D4163 ∧
      t.readReg .edx = 0x69746E65 ∧
      vendorString t.results = [0x41, 0x75, 0x74, 0x68, 0x65, 0x6E, 0x74, 0x69, 0x63, 0x41, 0x4D, 0x44]

/-- With 1 in EAX and 1 at most LFuncStd, CPUID returns the identification fields in EAX (ExtFamily and ExtModel when
BaseFamily is Fh), from which software computes the Family and the Model of cfg, and in EBX LocalApicId,
LogicalProcessorCount (when HTT is 1), CLFlush, a size in quadwords of 8 bytes, and 8BitBrandId. -/
def Obligations.Function0000_0001Identity : Prop :=
  ∀ s : State, s.mayExecute → s.readReg .eax = 0x00000001 → 0x00000001 ≤ s.cfg.LFuncStd →
    ∃ t, exec .cpuid s = .next t ∧
      (s.cfg.Fn0000_0001_EAX.BaseFamily = 0xF → bitsOf (t.readReg .eax) 27 20 = s.cfg.Fn0000_0001_EAX.ExtFamily) ∧
      (s.cfg.Fn0000_0001_EAX.BaseFamily = 0xF → bitsOf (t.readReg .eax) 19 16 = s.cfg.Fn0000_0001_EAX.ExtModel) ∧
      bitsOf (t.readReg .eax) 11 8 = s.cfg.Fn0000_0001_EAX.BaseFamily ∧
      bitsOf (t.readReg .eax) 7 4 = s.cfg.Fn0000_0001_EAX.BaseModel ∧
      bitsOf (t.readReg .eax) 3 0 = s.cfg.Fn0000_0001_EAX.Stepping ∧
      bitsOf (t.readReg .ebx) 31 24 = s.cfg.Fn0000_0001_EBX.LocalApicId ∧
      (s.cfg.Fn0000_0001_EDX.HTT = 1 → bitsOf (t.readReg .ebx) 23 16 = s.cfg.Fn0000_0001_EBX.LogicalProcessorCount) ∧
      bitsOf (t.readReg .ebx) 15 8 = s.cfg.Fn0000_0001_EBX.CLFlush ∧
      bitsOf (t.readReg .ebx) 7 0 = s.cfg.Fn0000_0001_EBX._8BitBrandId ∧
      familyFromEax (t.readReg .eax) = familyOf s.cfg.Fn0000_0001_EAX ∧
      modelFromEax (t.readReg .eax) = modelOf s.cfg.Fn0000_0001_EAX ∧
      clflushBytes s.cfg.Fn0000_0001_EBX = 8 * (bitsOf (t.readReg .ebx) 15 8).toNat

/-- With 1 in EAX and 1 at most LFuncStd, CPUID returns in ECX the feature bits of cfg, OSXSAVE from env and 0 in bit
31, and in EDX the feature bits of cfg with APIC = ApicExists and ApicEn. The state-dependent bits and the zero of bit
31 are the spec's decisions D12, D13 and D15 (log entries 22, 23). -/
def Obligations.Function0000_0001Features : Prop :=
  ∀ s : State, s.mayExecute → s.readReg .eax = 0x00000001 → 0x00000001 ≤ s.cfg.LFuncStd →
    ∃ t, exec .cpuid s = .next t ∧
      bitsOf (t.readReg .ecx) 31 31 = 0 ∧
      bitsOf (t.readReg .ecx) 30 30 = s.cfg.Fn0000_0001_ECX.RDRAND ∧
      bitsOf (t.readReg .ecx) 29 29 = s.cfg.Fn0000_0001_ECX.F16C ∧
      bitsOf (t.readReg .ecx) 28 28 = s.cfg.Fn0000_0001_ECX.AVX ∧
      bitsOf (t.readReg .ecx) 27 27 = s.env.OSXSAVE ∧
      bitsOf (t.readReg .ecx) 26 26 = s.cfg.Fn0000_0001_ECX.XSAVE ∧
      bitsOf (t.readReg .ecx) 25 25 = s.cfg.Fn0000_0001_ECX.AES ∧
      bitsOf (t.readReg .ecx) 23 23 = s.cfg.Fn0000_0001_ECX.POPCNT ∧
      bitsOf (t.readReg .ecx) 22 22 = s.cfg.Fn0000_0001_ECX.MOVBE ∧
      bitsOf (t.readReg .ecx) 21 21 = s.cfg.Fn0000_0001_ECX.x2APIC ∧
      bitsOf (t.readReg .ecx) 20 20 = s.cfg.Fn0000_0001_ECX.SSE42 ∧
      bitsOf (t.readReg .ecx) 19 19 = s.cfg.Fn0000_0001_ECX.SSE41 ∧
      bitsOf (t.readReg .ecx) 13 13 = s.cfg.Fn0000_0001_ECX.CMPXCHG16B ∧
      bitsOf (t.readReg .ecx) 12 12 = s.cfg.Fn0000_0001_ECX.FMA ∧
      bitsOf (t.readReg .ecx) 9 9 = s.cfg.Fn0000_0001_ECX.SSSE3 ∧
      bitsOf (t.readReg .ecx) 3 3 = s.cfg.Fn0000_0001_ECX.MONITOR ∧
      bitsOf (t.readReg .ecx) 1 1 = s.cfg.Fn0000_0001_ECX.PCLMULQDQ ∧
      bitsOf (t.readReg .ecx) 0 0 = s.cfg.Fn0000_0001_ECX.SSE3 ∧
      bitsOf (t.readReg .edx) 28 28 = s.cfg.Fn0000_0001_EDX.HTT ∧
      bitsOf (t.readReg .edx) 26 26 = s.cfg.Fn0000_0001_EDX.SSE2 ∧
      bitsOf (t.readReg .edx) 25 25 = s.cfg.Fn0000_0001_EDX.SSE ∧
      bitsOf (t.readReg .edx) 24 24 = s.cfg.Fn0000_0001_EDX.FXSR ∧
      bitsOf (t.readReg .edx) 23 23 = s.cfg.Fn0000_0001_EDX.MMX ∧
      bitsOf (t.readReg .edx) 19 19 = s.cfg.Fn0000_0001_EDX.CLFSH ∧
      bitsOf (t.readReg .edx) 17 17 = s.cfg.Fn0000_0001_EDX.PSE36 ∧
      bitsOf (t.readReg .edx) 16 16 = s.cfg.Fn0000_0001_EDX.PAT ∧
      bitsOf (t.readReg .edx) 15 15 = s.cfg.Fn0000_0001_EDX.CMOV ∧
      bitsOf (t.readReg .edx) 14 14 = s.cfg.Fn0000_0001_EDX.MCA ∧
      bitsOf (t.readReg .edx) 13 13 = s.cfg.Fn0000_0001_EDX.PGE ∧
      bitsOf (t.readReg .edx) 12 12 = s.cfg.Fn0000_0001_EDX.MTRR ∧
      bitsOf (t.readReg .edx) 11 11 = s.cfg.Fn0000_0001_EDX.SysEnterSysExit ∧
      bitsOf (t.readReg .edx) 9 9 = s.cfg.ApicExists &&& s.env.ApicEn ∧
      bitsOf (t.readReg .edx) 8 8 = s.cfg.Fn0000_0001_EDX.CMPXCHG8B ∧
      bitsOf (t.readReg .edx) 7 7 = s.cfg.Fn0000_0001_EDX.MCE ∧
      bitsOf (t.readReg .edx) 6 6 = s.cfg.Fn0000_0001_EDX.PAE ∧
      bitsOf (t.readReg .edx) 5 5 = s.cfg.Fn0000_0001_EDX.MSR ∧
      bitsOf (t.readReg .edx) 4 4 = s.cfg.Fn0000_0001_EDX.TSC ∧
      bitsOf (t.readReg .edx) 3 3 = s.cfg.Fn0000_0001_EDX.PSE ∧
      bitsOf (t.readReg .edx) 2 2 = s.cfg.Fn0000_0001_EDX.DE ∧
      bitsOf (t.readReg .edx) 1 1 = s.cfg.Fn0000_0001_EDX.VME ∧
      bitsOf (t.readReg .edx) 0 0 = s.cfg.Fn0000_0001_EDX.FPU

/-- With 5 in EAX and 5 at most LFuncStd, CPUID returns MonLineSizeMin, MonLineSizeMax, IBE and EMX at their bits;
with 6 in EAX and 6 at most LFuncStd, it returns ARAT in EAX[2] and EffFreq in ECX[0]. -/
def Obligations.Functions0000_0005And0000_0006 : Prop :=
  ∀ s : State, s.mayExecute →
    (s.readReg .eax = 0x00000005 → 0x00000005 ≤ s.cfg.LFuncStd →
      ∃ t, exec .cpuid s = .next t ∧
        bitsOf (t.readReg .eax) 15 0 = s.cfg.Fn0000_0005_EAX.MonLineSizeMin ∧
        bitsOf (t.readReg .ebx) 15 0 = s.cfg.Fn0000_0005_EBX.MonLineSizeMax ∧
        bitsOf (t.readReg .ecx) 1 1 = s.cfg.Fn0000_0005_ECX.IBE ∧
        bitsOf (t.readReg .ecx) 0 0 = s.cfg.Fn0000_0005_ECX.EMX) ∧
    (s.readReg .eax = 0x00000006 → 0x00000006 ≤ s.cfg.LFuncStd →
      ∃ t, exec .cpuid s = .next t ∧
        bitsOf (t.readReg .eax) 2 2 = s.cfg.Fn0000_0006_EAX.ARAT ∧
        bitsOf (t.readReg .ecx) 0 0 = s.cfg.Fn0000_0006_ECX.EffFreq)

/-- With 7 in EAX, 0 in ECX and 7 at most LFuncStd, CPUID returns the feature bits of EBX and ECX, OSPKE being the
control bit CR4.PKE. -/
def Obligations.Function0000_0007Features : Prop :=
  ∀ s : State, s.mayExecute →
    s.readReg .eax = 0x00000007 →
    s.readReg .ecx = 0 →
    0x00000007 ≤ s.cfg.LFuncStd →
    ∃ t, exec .cpuid s = .next t ∧
      bitsOf (t.readReg .ebx) 31 31 = s.cfg.Fn0000_0007_EBX_x0.AVX512VL ∧
      bitsOf (t.readReg .ebx) 30 30 = s.cfg.Fn0000_0007_EBX_x0.AVX512BW ∧
      bitsOf (t.readReg .ebx) 29 29 = s.cfg.Fn0000_0007_EBX_x0.SHA ∧
      bitsOf (t.readReg .ebx) 28 28 = s.cfg.Fn0000_0007_EBX_x0.AVX512CD ∧
      bitsOf (t.readReg .ebx) 24 24 = s.cfg.Fn0000_0007_EBX_x0.CLWB ∧
      bitsOf (t.readReg .ebx) 23 23 = s.cfg.Fn0000_0007_EBX_x0.CLFLUSHOPT ∧
      bitsOf (t.readReg .ebx) 21 21 = s.cfg.Fn0000_0007_EBX_x0.AVX512_IFMA ∧
      bitsOf (t.readReg .ebx) 20 20 = s.cfg.Fn0000_0007_EBX_x0.SMAP ∧
      bitsOf (t.readReg .ebx) 19 19 = s.cfg.Fn0000_0007_EBX_x0.ADX ∧
      bitsOf (t.readReg .ebx) 18 18 = s.cfg.Fn0000_0007_EBX_x0.RDSEED ∧
      bitsOf (t.readReg .ebx) 17 17 = s.cfg.Fn0000_0007_EBX_x0.AVX512DQ ∧
      bitsOf (t.readReg .ebx) 16 16 = s.cfg.Fn0000_0007_EBX_x0.AVX512F ∧
      bitsOf (t.readReg .ebx) 15 15 = s.cfg.Fn0000_0007_EBX_x0.PQE ∧
      bitsOf (t.readReg .ebx) 12 12 = s.cfg.Fn0000_0007_EBX_x0.PQM ∧
      bitsOf (t.readReg .ebx) 10 10 = s.cfg.Fn0000_0007_EBX_x0.INVPCID ∧
      bitsOf (t.readReg .ebx) 9 9 = s.cfg.Fn0000_0007_EBX_x0.ERMS ∧
      bitsOf (t.readReg .ebx) 8 8 = s.cfg.Fn0000_0007_EBX_x0.BMI2 ∧
      bitsOf (t.readReg .ebx) 7 7 = s.cfg.Fn0000_0007_EBX_x0.SMEP ∧
      bitsOf (t.readReg .ebx) 5 5 = s.cfg.Fn0000_0007_EBX_x0.AVX2 ∧
      bitsOf (t.readReg .ebx) 3 3 = s.cfg.Fn0000_0007_EBX_x0.BMI1 ∧
      bitsOf (t.readReg .ebx) 1 1 = s.cfg.Fn0000_0007_EBX_x0.TSCADJUST ∧
      bitsOf (t.readReg .ebx) 0 0 = s.cfg.Fn0000_0007_EBX_x0.FSGSBASE ∧
      bitsOf (t.readReg .ecx) 28 28 = s.cfg.Fn0000_0007_ECX_x0.MOVDIR64B ∧
      bitsOf (t.readReg .ecx) 27 27 = s.cfg.Fn0000_0007_ECX_x0.MOVDIRI ∧
      bitsOf (t.readReg .ecx) 24 24 = s.cfg.Fn0000_0007_ECX_x0.BUSLOCKTRAP ∧
      bitsOf (t.readReg .ecx) 22 22 = s.cfg.Fn0000_0007_ECX_x0.RDPID ∧
      bitsOf (t.readReg .ecx) 16 16 = s.cfg.Fn0000_0007_ECX_x0.LA57 ∧
      bitsOf (t.readReg .ecx) 14 14 = s.cfg.Fn0000_0007_ECX_x0.AVX512_VPOPCNTDQ ∧
      bitsOf (t.readReg .ecx) 12 12 = s.cfg.Fn0000_0007_ECX_x0.AVX512_BITALG ∧
      bitsOf (t.readReg .ecx) 11 11 = s.cfg.Fn0000_0007_ECX_x0.AVX512_VNNI ∧
      bitsOf (t.readReg .ecx) 10 10 = s.cfg.Fn0000_0007_ECX_x0.VPCLMULQDQ ∧
      bitsOf (t.readReg .ecx) 9 9 = s.cfg.Fn0000_0007_ECX_x0.VAES ∧
      bitsOf (t.readReg .ecx) 8 8 = s.cfg.Fn0000_0007_ECX_x0.GFNI ∧
      bitsOf (t.readReg .ecx) 7 7 = s.cfg.Fn0000_0007_ECX_x0.CET_SS ∧
      bitsOf (t.readReg .ecx) 6 6 = s.cfg.Fn0000_0007_ECX_x0.AVX512_VBMI2 ∧
      bitsOf (t.readReg .ecx) 4 4 = s.env.CR4_PKE ∧
      bitsOf (t.readReg .ecx) 3 3 = s.cfg.Fn0000_0007_ECX_x0.PKU ∧
      bitsOf (t.readReg .ecx) 2 2 = s.cfg.Fn0000_0007_ECX_x0.UMIP ∧
      bitsOf (t.readReg .ecx) 1 1 = s.cfg.Fn0000_0007_ECX_x0.AVX512_VBMI

/-- With 7 in EAX and 7 at most LFuncStd, subfunction 0 returns Fn7_MaxSubFn in EAX; subfunction 1, when Fn7_MaxSubFn
is at least 1, returns AVX512_BF16 and AVX_VNNI. The reading of MaxSubFn is the spec's decision D10 (log entry 21). -/
def Obligations.Function0000_0007Subfunctions : Prop :=
  ∀ s : State, s.mayExecute → s.readReg .eax = 0x00000007 → 0x00000007 ≤ s.cfg.LFuncStd →
    ∃ t, exec .cpuid s = .next t ∧
      (s.readReg .ecx = 0 → t.readReg .eax = s.cfg.Fn7_MaxSubFn) ∧
      (s.readReg .ecx = 1 → 1 ≤ s.cfg.Fn7_MaxSubFn →
        bitsOf (t.readReg .eax) 5 5 = s.cfg.Fn0000_0007_EAX_x1.AVX512_BF16 ∧
        bitsOf (t.readReg .eax) 4 4 = s.cfg.Fn0000_0007_EAX_x1.AVX_VNNI)

/-- With Bh in EAX and Bh at most LFuncStd: with 0 in ECX and at least one level implemented, CPUID returns
ThreadMaskWidth, NumLogProc, the level number 1 and the low byte of the input ECX; with a level number in ECX that is
not below FnB_Levels, it returns 0 in EAX. -/
def Obligations.Function0000_000B : Prop :=
  ∀ s : State, s.mayExecute → s.readReg .eax = 0x0000000B → 0x0000000B ≤ s.cfg.LFuncStd →
    ∃ t, exec .cpuid s = .next t ∧
      (s.readReg .ecx = 0 → 1 ≤ s.cfg.FnB_Levels.val →
        bitsOf (t.readReg .eax) 4 0 = s.cfg.Fn0000_000B_EAX_x0.ThreadMaskWidth ∧
        bitsOf (t.readReg .ebx) 15 0 = s.cfg.Fn0000_000B_EBX_x0.NumLogProc ∧
        bitsOf (t.readReg .ecx) 15 8 = 0x01 ∧
        bitsOf (t.readReg .ecx) 7 0 = inputEcx (s.readReg .ecx)) ∧
      (s.cfg.FnB_Levels.val ≤ (s.readReg .ecx).toNat → t.readReg .eax = 0)

/-- With Bh in EAX and Bh at most LFuncStd: at every implemented level EDX is the one x2APIC_ID of the logical
processor; at the core level CPUID returns CoreMaskWidth, NumLogCores, the level number 2 and the low byte of the
input ECX; the identifiers of core and package are that EDX shifted right by the mask width of the level. That the two
levels share one identifier, and the shifts, are the spec's inferences. -/
def Obligations.Function0000_000BCore : Prop :=
  ∀ s : State, s.mayExecute →
    s.readReg .eax = 0x0000000B →
    0x0000000B ≤ s.cfg.LFuncStd →
    (s.readReg .ecx).toNat < s.cfg.FnB_Levels.val →
    ∃ t, exec .cpuid s = .next t ∧
      t.readReg .edx = s.cfg.x2APIC_ID ∧
      (s.readReg .ecx = 0 → coreId s.cfg = t.readReg .edx >>> (bitsOf (t.readReg .eax) 4 0).toNat) ∧
      (s.readReg .ecx = 1 →
        bitsOf (t.readReg .eax) 4 0 = s.cfg.Fn0000_000B_EAX_x1.CoreMaskWidth ∧
        bitsOf (t.readReg .ebx) 15 0 = s.cfg.Fn0000_000B_EBX_x1.NumLogCores ∧
        bitsOf (t.readReg .ecx) 15 8 = 0x02 ∧
        bitsOf (t.readReg .ecx) 7 0 = inputEcx (s.readReg .ecx) ∧
        packageId s.cfg = t.readReg .edx >>> (bitsOf (t.readReg .eax) 4 0).toNat)

/-- With Dh in EAX and Dh at most LFuncStd: subfunction 0 returns the two halves of XFeatureSupportedMask in EAX and
EDX and XFeatureSupportedSizeMax in ECX; subfunction 1 returns XSAVES, XGETBV, XSAVEC, XSAVEOPT in EAX and CET_S,
CET_U in ECX. -/
def Obligations.Function0000_000DMasks : Prop :=
  ∀ s : State, s.mayExecute → s.readReg .eax = 0x0000000D → 0x0000000D ≤ s.cfg.LFuncStd →
    ∃ t, exec .cpuid s = .next t ∧
      (s.readReg .ecx = 0 →
        t.readReg .eax = s.cfg.Fn0000_000D_EAX_x0.XFeatureSupportedMaskLo ∧
        t.readReg .ecx = s.cfg.Fn0000_000D_ECX_x0.XFeatureSupportedSizeMax ∧
        t.readReg .edx = s.cfg.Fn0000_000D_EDX_x0.XFeatureSupportedMaskHi) ∧
      (s.readReg .ecx = 1 →
        bitsOf (t.readReg .eax) 3 3 = s.cfg.Fn0000_000D_EAX_x1.XSAVES ∧
        bitsOf (t.readReg .eax) 2 2 = s.cfg.Fn0000_000D_EAX_x1.XGETBV ∧
        bitsOf (t.readReg .eax) 1 1 = s.cfg.Fn0000_000D_EAX_x1.XSAVEC ∧
        bitsOf (t.readReg .eax) 0 0 = s.cfg.Fn0000_000D_EAX_x1.XSAVEOPT ∧
        bitsOf (t.readReg .ecx) 12 12 = s.cfg.Fn0000_000D_ECX_x1.CET_S ∧
        bitsOf (t.readReg .ecx) 11 11 = s.cfg.Fn0000_000D_ECX_x1.CET_U)

/-- With Dh in EAX and Dh at most LFuncStd, in a configuration of this hardware: subfunction 0 returns in EBX the size
function of cfg at XCR0, which at the full supported mask is XFeatureSupportedSizeMax; subfunction 1 returns in EBX
240h plus 100h, 8, 10h and 18h for the bits 2 and 9 of XCR0 and the bits 11 and 12 of XSS. The size function is
uninterpreted in the spec; its value at the full mask is an inference of R153 (log entries 2, 24); the positions of
the two XCR0 bits are general knowledge (log entries 24, 25). -/
def Obligations.Function0000_000DSizes : Prop :=
  ∀ s : State, s.mayExecute →
    s.readReg .eax = 0x0000000D →
    0x0000000D ≤ s.cfg.LFuncStd →
    s.cfg.wellFormed = true →
    ∃ t, exec .cpuid s = .next t ∧
      (s.readReg .ecx = 0 → t.readReg .ebx = s.cfg.XFeatureEnabledSizeMax.apply s.env.XCR0 ∧
        (s.env.XCR0 = s.cfg.xFeatureSupportedMask →
          t.readReg .ebx = s.cfg.Fn0000_000D_ECX_x0.XFeatureSupportedSizeMax)) ∧
      (s.readReg .ecx = 1 → t.readReg .ebx =
        0x240 + (if s.env.XCR0.getLsbD 2 then 0x100 else 0) +
          (if s.env.XCR0.getLsbD 9 then 0x8 else 0) +
          (if s.env.XSS.getLsbD 11 then 0x10 else 0) +
          (if s.env.XSS.getLsbD 12 then 0x18 else 0))

/-- With Dh in EAX and Dh at most LFuncStd: subfunctions 2, 0Bh, 0Ch and 3Eh, where implemented, return the sizes and
offsets of the YMM, CET user, CET supervisor and LWP state, the CET ones with ECX = 1 and EDX = 0; an unimplemented
subfunction, and every subfunction above 3Eh, returns zero in all four registers. -/
def Obligations.Function0000_000DComponents : Prop :=
  ∀ s : State, s.mayExecute → s.readReg .eax = 0x0000000D → 0x0000000D ≤ s.cfg.LFuncStd →
    ∃ t, exec .cpuid s = .next t ∧
      (s.readReg .ecx = 0x02 → s.cfg.fnDClass 0x02 = .implemented →
        t.readReg .eax = s.cfg.Fn0000_000D_EAX_x2.YmmSaveStateSize ∧
        t.readReg .ebx = s.cfg.Fn0000_000D_EBX_x2.YmmSaveStateOffset) ∧
      (s.readReg .ecx = 0x0B → s.cfg.fnDClass 0x0B = .implemented →
        t.readReg .eax = s.cfg.Fn0000_000D_EAX_x0B.CetUserSize ∧
        t.readReg .ebx = s.cfg.Fn0000_000D_EBX_x0B.CetUserOffset ∧
        bitsOf (t.readReg .ecx) 31 1 = 0 ∧
        bitsOf (t.readReg .ecx) 0 0 = 1 ∧
        t.readReg .edx = 0) ∧
      (s.readReg .ecx = 0x0C → s.cfg.fnDClass 0x0C = .implemented →
        t.readReg .eax = s.cfg.Fn0000_000D_EAX_x0C.CetSupervisorSize ∧
        t.readReg .ebx = s.cfg.Fn0000_000D_EBX_x0C.CetSupervisorOffset ∧
        bitsOf (t.readReg .ecx) 31 1 = 0 ∧
        bitsOf (t.readReg .ecx) 0 0 = 1 ∧
        t.readReg .edx = 0) ∧
      (s.readReg .ecx = 0x3E → s.cfg.fnDClass 0x3E = .implemented →
        t.readReg .eax = s.cfg.Fn0000_000D_EAX_x3E.LwpSaveStateSize ∧
        t.readReg .ebx = s.cfg.Fn0000_000D_EBX_x3E.LwpSaveStateOffset) ∧
      (2 ≤ s.readReg .ecx → s.readReg .ecx ≤ 0x3E → s.cfg.fnDClass (s.readReg .ecx) = .unimplemented →
        t.holds ⟨0, 0, 0, 0⟩) ∧
      (0x3E < s.readReg .ecx → t.holds ⟨0, 0, 0, 0⟩)

/-- With Fh in EAX, Fh at most LFuncStd and PQM supported: subfunction 0 returns Max_RMID and L3CacheMon; subfunction
1 returns OverflowBit, CounterSize, ScaleFactor, Max_RMID and the three monitoring events; a counter has 24 +
CounterSize bits where CounterSize is not 0, and a count is scaled by ScaleFactor. The counter width and the scaling
are inferences of R172 (log entry 41). -/
def Obligations.Function0000_000F : Prop :=
  ∀ s : State, s.mayExecute →
    s.readReg .eax = 0x0000000F →
    0x0000000F ≤ s.cfg.LFuncStd →
    s.cfg.Fn0000_0007_EBX_x0.PQM = 1 →
    ∃ t, exec .cpuid s = .next t ∧
      (s.readReg .ecx = 0 →
        t.readReg .ebx = s.cfg.Fn0000_000F_EBX_x0.Max_RMID ∧
        bitsOf (t.readReg .edx) 1 1 = s.cfg.Fn0000_000F_EDX_x0.L3CacheMon) ∧
      (s.readReg .ecx = 1 →
        bitsOf (t.readReg .eax) 8 8 = s.cfg.Fn0000_000F_EAX_x1.OverflowBit ∧
        bitsOf (t.readReg .eax) 7 0 = s.cfg.Fn0000_000F_EAX_x1.CounterSize ∧
        t.readReg .ebx = s.cfg.Fn0000_000F_EBX_x1.ScaleFactor ∧
        t.readReg .ecx = s.cfg.Fn0000_000F_ECX_x1.Max_RMID ∧
        bitsOf (t.readReg .edx) 2 2 = s.cfg.Fn0000_000F_EDX_x1.L3CacheBWMonEvt1 ∧
        bitsOf (t.readReg .edx) 1 1 = s.cfg.Fn0000_000F_EDX_x1.L3CacheBWMonEvt0 ∧
        bitsOf (t.readReg .edx) 0 0 = s.cfg.Fn0000_000F_EDX_x1.L3CacheOccMon ∧
        (bitsOf (t.readReg .eax) 7 0 ≠ 0 → counterWidth s.cfg.Fn0000_000F_EAX_x1.CounterSize =
          some (24 + (bitsOf (t.readReg .eax) 7 0).toNat)) ∧
        (bitsOf (t.readReg .eax) 7 0 = 0 → counterWidth s.cfg.Fn0000_000F_EAX_x1.CounterSize = none) ∧
        ∀ reading, scaledCount reading s.cfg.Fn0000_000F_EBX_x1 = (t.readReg .ebx).toNat * reading)

/-- With 10h in EAX, 10h at most LFuncStd and PQE supported: subfunction 0 returns L3Alloc; subfunction 1 returns
CBM_LEN, the mask length minus 1, L3ShareAllocMask, CDP and COS_MAX. That a mask is CBM_LEN + 1 bits long is an
inference of R177 (log entry 41). -/
def Obligations.Function0000_0010 : Prop :=
  ∀ s : State, s.mayExecute →
    s.readReg .eax = 0x00000010 →
    0x00000010 ≤ s.cfg.LFuncStd →
    s.cfg.Fn0000_0007_EBX_x0.PQE = 1 →
    ∃ t, exec .cpuid s = .next t ∧
      (s.readReg .ecx = 0 → bitsOf (t.readReg .edx) 1 1 = s.cfg.Fn0000_0010_EDX_x0.L3Alloc) ∧
      (s.readReg .ecx = 1 →
        bitsOf (t.readReg .eax) 4 0 = s.cfg.Fn0000_0010_EAX_x1.CBM_LEN ∧
        t.readReg .ebx = s.cfg.Fn0000_0010_EBX_x1.L3ShareAllocMask ∧
        bitsOf (t.readReg .ecx) 2 2 = s.cfg.Fn0000_0010_ECX_x1.CDP ∧
        bitsOf (t.readReg .edx) 15 0 = s.cfg.Fn0000_0010_EDX_x1.COS_MAX ∧
        capacityMaskLength s.cfg.Fn0000_0010_EAX_x1 = (bitsOf (t.readReg .eax) 4 0).toNat + 1)

/-- With 8000_0000h in EAX and 8000_0000h at most LFuncExt, CPUID returns LFuncExt in EAX and the same three vendor
constants as function 0. -/
def Obligations.Function8000_0000 : Prop :=
  ∀ s : State, s.mayExecute → s.readReg .eax = 0x80000000 → 0x80000000 ≤ s.cfg.LFuncExt →
    ∃ t, exec .cpuid s = .next t ∧
      t.readReg .eax = s.cfg.LFuncExt ∧
      t.readReg .ebx = 0x68747541 ∧
      t.readReg .ecx = 0x444D4163 ∧
      t.readReg .edx = 0x69746E65 ∧
      vendorString t.results = [0x41, 0x75, 0x74, 0x68, 0x65, 0x6E, 0x74, 0x69, 0x63, 0x41, 0x4D, 0x44]

/-- With 8000_0001h in EAX and 8000_0001h at most LFuncExt, CPUID returns the identification fields of function 1 in
EAX, PkgType (when Family is at least 10h) and BrandId in EBX, and the feature bits of ECX. -/
def Obligations.Function8000_0001 : Prop :=
  ∀ s : State, s.mayExecute → s.readReg .eax = 0x80000001 → 0x80000001 ≤ s.cfg.LFuncExt →
    ∃ t, exec .cpuid s = .next t ∧
      (s.cfg.Fn0000_0001_EAX.BaseFamily = 0xF → bitsOf (t.readReg .eax) 27 20 = s.cfg.Fn0000_0001_EAX.ExtFamily) ∧
      (s.cfg.Fn0000_0001_EAX.BaseFamily = 0xF → bitsOf (t.readReg .eax) 19 16 = s.cfg.Fn0000_0001_EAX.ExtModel) ∧
      bitsOf (t.readReg .eax) 11 8 = s.cfg.Fn0000_0001_EAX.BaseFamily ∧
      bitsOf (t.readReg .eax) 7 4 = s.cfg.Fn0000_0001_EAX.BaseModel ∧
      bitsOf (t.readReg .eax) 3 0 = s.cfg.Fn0000_0001_EAX.Stepping ∧
      (0x10 ≤ familyOf s.cfg.Fn0000_0001_EAX → bitsOf (t.readReg .ebx) 31 28 = s.cfg.Fn8000_0001_EBX.PkgType) ∧
      bitsOf (t.readReg .ebx) 15 0 = s.cfg.Fn8000_0001_EBX.BrandId ∧
      bitsOf (t.readReg .ecx) 30 30 = s.cfg.Fn8000_0001_ECX.AddrMaskExt ∧
      bitsOf (t.readReg .ecx) 29 29 = s.cfg.Fn8000_0001_ECX.MONITORX ∧
      bitsOf (t.readReg .ecx) 28 28 = s.cfg.Fn8000_0001_ECX.PerfCtrExtLLC ∧
      bitsOf (t.readReg .ecx) 27 27 = s.cfg.Fn8000_0001_ECX.PerfTsc ∧
      bitsOf (t.readReg .ecx) 26 26 = s.cfg.Fn8000_0001_ECX.DataBkptExt ∧
      bitsOf (t.readReg .ecx) 24 24 = s.cfg.Fn8000_0001_ECX.PerfCtrExtNB ∧
      bitsOf (t.readReg .ecx) 23 23 = s.cfg.Fn8000_0001_ECX.PerfCtrExtCore ∧
      bitsOf (t.readReg .ecx) 22 22 = s.cfg.Fn8000_0001_ECX.TopologyExtensions ∧
      bitsOf (t.readReg .ecx) 21 21 = s.cfg.Fn8000_0001_ECX.TBM ∧
      bitsOf (t.readReg .ecx) 17 17 = s.cfg.Fn8000_0001_ECX.TCE ∧
      bitsOf (t.readReg .ecx) 16 16 = s.cfg.Fn8000_0001_ECX.FMA4 ∧
      bitsOf (t.readReg .ecx) 15 15 = s.cfg.Fn8000_0001_ECX.LWP ∧
      bitsOf (t.readReg .ecx) 13 13 = s.cfg.Fn8000_0001_ECX.WDT ∧
      bitsOf (t.readReg .ecx) 12 12 = s.cfg.Fn8000_0001_ECX.SKINIT ∧
      bitsOf (t.readReg .ecx) 11 11 = s.cfg.Fn8000_0001_ECX.XOP ∧
      bitsOf (t.readReg .ecx) 10 10 = s.cfg.Fn8000_0001_ECX.IBS ∧
      bitsOf (t.readReg .ecx) 9 9 = s.cfg.Fn8000_0001_ECX.OSVW ∧
      bitsOf (t.readReg .ecx) 8 8 = s.cfg.Fn8000_0001_ECX._3DNowPrefetch ∧
      bitsOf (t.readReg .ecx) 7 7 = s.cfg.Fn8000_0001_ECX.MisAlignSse ∧
      bitsOf (t.readReg .ecx) 6 6 = s.cfg.Fn8000_0001_ECX.SSE4A ∧
      bitsOf (t.readReg .ecx) 5 5 = s.cfg.Fn8000_0001_ECX.ABM ∧
      bitsOf (t.readReg .ecx) 4 4 = s.cfg.Fn8000_0001_ECX.AltMovCr8 ∧
      bitsOf (t.readReg .ecx) 3 3 = s.cfg.Fn8000_0001_ECX.ExtApicSpace ∧
      bitsOf (t.readReg .ecx) 2 2 = s.cfg.Fn8000_0001_ECX.SVM ∧
      bitsOf (t.readReg .ecx) 1 1 = s.cfg.Fn8000_0001_ECX.CmpLegacy ∧
      bitsOf (t.readReg .ecx) 0 0 = s.cfg.Fn8000_0001_ECX.LahfSahf

/-- With 8000_0001h in EAX and 8000_0001h at most LFuncExt, CPUID returns in EDX the eighteen bits that are the same
as function 1's, APIC among them, and its nine own bits. The state-dependent APIC bit is the spec's decision D12 (log
entry 23). -/
def Obligations.Function8000_0001Edx : Prop :=
  ∀ s : State, s.mayExecute → s.readReg .eax = 0x80000001 → 0x80000001 ≤ s.cfg.LFuncExt →
    ∃ t, exec .cpuid s = .next t ∧
      bitsOf (t.readReg .edx) 31 31 = s.cfg.Fn8000_0001_EDX._3DNow ∧
      bitsOf (t.readReg .edx) 30 30 = s.cfg.Fn8000_0001_EDX._3DNowExt ∧
      bitsOf (t.readReg .edx) 29 29 = s.cfg.Fn8000_0001_EDX.LM ∧
      bitsOf (t.readReg .edx) 27 27 = s.cfg.Fn8000_0001_EDX.RDTSCP ∧
      bitsOf (t.readReg .edx) 26 26 = s.cfg.Fn8000_0001_EDX.Page1GB ∧
      bitsOf (t.readReg .edx) 25 25 = s.cfg.Fn8000_0001_EDX.FFXSR ∧
      bitsOf (t.readReg .edx) 24 24 = s.cfg.Fn0000_0001_EDX.FXSR ∧
      bitsOf (t.readReg .edx) 23 23 = s.cfg.Fn0000_0001_EDX.MMX ∧
      bitsOf (t.readReg .edx) 22 22 = s.cfg.Fn8000_0001_EDX.MmxExt ∧
      bitsOf (t.readReg .edx) 20 20 = s.cfg.Fn8000_0001_EDX.NX ∧
      bitsOf (t.readReg .edx) 17 17 = s.cfg.Fn0000_0001_EDX.PSE36 ∧
      bitsOf (t.readReg .edx) 16 16 = s.cfg.Fn0000_0001_EDX.PAT ∧
      bitsOf (t.readReg .edx) 15 15 = s.cfg.Fn0000_0001_EDX.CMOV ∧
      bitsOf (t.readReg .edx) 14 14 = s.cfg.Fn0000_0001_EDX.MCA ∧
      bitsOf (t.readReg .edx) 13 13 = s.cfg.Fn0000_0001_EDX.PGE ∧
      bitsOf (t.readReg .edx) 12 12 = s.cfg.Fn0000_0001_EDX.MTRR ∧
      bitsOf (t.readReg .edx) 11 11 = s.cfg.Fn8000_0001_EDX.SysCallSysRet ∧
      bitsOf (t.readReg .edx) 9 9 = s.cfg.ApicExists &&& s.env.ApicEn ∧
      bitsOf (t.readReg .edx) 8 8 = s.cfg.Fn0000_0001_EDX.CMPXCHG8B ∧
      bitsOf (t.readReg .edx) 7 7 = s.cfg.Fn0000_0001_EDX.MCE ∧
      bitsOf (t.readReg .edx) 6 6 = s.cfg.Fn0000_0001_EDX.PAE ∧
      bitsOf (t.readReg .edx) 5 5 = s.cfg.Fn0000_0001_EDX.MSR ∧
      bitsOf (t.readReg .edx) 4 4 = s.cfg.Fn0000_0001_EDX.TSC ∧
      bitsOf (t.readReg .edx) 3 3 = s.cfg.Fn0000_0001_EDX.PSE ∧
      bitsOf (t.readReg .edx) 2 2 = s.cfg.Fn0000_0001_EDX.DE ∧
      bitsOf (t.readReg .edx) 1 1 = s.cfg.Fn0000_0001_EDX.VME ∧
      bitsOf (t.readReg .edx) 0 0 = s.cfg.Fn0000_0001_EDX.FPU

/-- In a configuration of this hardware that supports both functions, CPUID with 1 in EAX and CPUID with 8000_0001h in
EAX, with equal cfg and env, return EAX values that agree on 0FFF_0FFFh and EDX values that agree on 0183_F3FFh. That
the equalities reach the defined fields only is the spec's decision D27 (log entry 26). -/
def Obligations.MirroredBitsAgree : Prop :=
  ∀ s s' : State, s.mayExecute → s.cfg.wellFormed = true → s'.cfg = s.cfg → s'.env = s.env →
    s.readReg .eax = 0x00000001 → 0x00000001 ≤ s.cfg.LFuncStd →
    s'.readReg .eax = 0x80000001 → 0x80000001 ≤ s.cfg.LFuncExt →
    ∃ t t', exec .cpuid s = .next t ∧ exec .cpuid s' = .next t' ∧
      agreeOn 0x0FFF0FFF (t.readReg .eax) (t'.readReg .eax) ∧ agreeOn 0x0183F3FF (t.readReg .edx) (t'.readReg .edx)

/-- With fn from 8000_0002h to 8000_0004h in EAX and fn at most LFuncExt, CPUID returns 16 characters of the name
string, from character 16 * (fn - 8000_0002h) on, in the order EAX, EBX, ECX, EDX, each register from its least
significant byte up. -/
def Obligations.NameStringFunctions : Prop :=
  ∀ s : State, s.mayExecute → 0x80000002 ≤ s.readReg .eax → s.readReg .eax ≤ 0x80000004 →
    s.readReg .eax ≤ s.cfg.LFuncExt →
    ∃ t, exec .cpuid s = .next t ∧
      ∀ k, k < 16 → (nameCharacters t.results)[k]? =
        s.env.NameString.toList[16 * (s.readReg .eax - 0x80000002).toNat + k]?

/-- With 8000_0005h in EAX and 8000_0005h at most LFuncExt, CPUID returns the four fields of each of EAX, EBX, ECX and
EDX; the entries for 4-MB pages are one-half of the two size fields of EAX, and the two cache sizes count 1024 bytes
each. -/
def Obligations.Function8000_0005 : Prop :=
  ∀ s : State, s.mayExecute → s.readReg .eax = 0x80000005 → 0x80000005 ≤ s.cfg.LFuncExt →
    ∃ t, exec .cpuid s = .next t ∧
      bitsOf (t.readReg .eax) 31 24 = s.cfg.Fn8000_0005_EAX.L1DTlb2and4MAssoc ∧
      bitsOf (t.readReg .eax) 23 16 = s.cfg.Fn8000_0005_EAX.L1DTlb2and4MSize ∧
      bitsOf (t.readReg .eax) 15 8 = s.cfg.Fn8000_0005_EAX.L1ITlb2and4MAssoc ∧
      bitsOf (t.readReg .eax) 7 0 = s.cfg.Fn8000_0005_EAX.L1ITlb2and4MSize ∧
      bitsOf (t.readReg .ebx) 31 24 = s.cfg.Fn8000_0005_EBX.L1DTlb4KAssoc ∧
      bitsOf (t.readReg .ebx) 23 16 = s.cfg.Fn8000_0005_EBX.L1DTlb4KSize ∧
      bitsOf (t.readReg .ebx) 15 8 = s.cfg.Fn8000_0005_EBX.L1ITlb4KAssoc ∧
      bitsOf (t.readReg .ebx) 7 0 = s.cfg.Fn8000_0005_EBX.L1ITlb4KSize ∧
      bitsOf (t.readReg .ecx) 31 24 = s.cfg.Fn8000_0005_ECX.L1DcSize ∧
      bitsOf (t.readReg .ecx) 23 16 = s.cfg.Fn8000_0005_ECX.L1DcAssoc ∧
      bitsOf (t.readReg .ecx) 15 8 = s.cfg.Fn8000_0005_ECX.L1DcLinesPerTag ∧
      bitsOf (t.readReg .ecx) 7 0 = s.cfg.Fn8000_0005_ECX.L1DcLineSize ∧
      bitsOf (t.readReg .edx) 31 24 = s.cfg.Fn8000_0005_EDX.L1IcSize ∧
      bitsOf (t.readReg .edx) 23 16 = s.cfg.Fn8000_0005_EDX.L1IcAssoc ∧
      bitsOf (t.readReg .edx) 15 8 = s.cfg.Fn8000_0005_EDX.L1IcLinesPerTag ∧
      bitsOf (t.readReg .edx) 7 0 = s.cfg.Fn8000_0005_EDX.L1IcLineSize ∧
      (∀ n, (bitsOf (t.readReg .eax) 23 16).toNat = 2 * n → entriesFor4M s.cfg.Fn8000_0005_EAX.L1DTlb2and4MSize = some n) ∧
      (∀ n, (bitsOf (t.readReg .eax) 7 0).toNat = 2 * n → entriesFor4M s.cfg.Fn8000_0005_EAX.L1ITlb2and4MSize = some n) ∧
      kilobytes s.cfg.Fn8000_0005_ECX.L1DcSize = (bitsOf (t.readReg .ecx) 31 24).toNat * 1024 ∧
      kilobytes s.cfg.Fn8000_0005_EDX.L1IcSize = (bitsOf (t.readReg .edx) 31 24).toNat * 1024

/-- With 8000_0006h in EAX and 8000_0006h at most LFuncExt, CPUID returns the fields of EAX, EBX, ECX and EDX; the
entries for 4-MB pages are one-half of the two size fields of EAX where the TLB is not disabled and L2TlbSizeX32 does
not scale the field (the other cases: L2TlbEntryCounts), the L2 size counts 1024 bytes each, and the L3 size lies in
the range of L3Size and L3Size + 1 times 512 KB. -/
def Obligations.Function8000_0006 : Prop :=
  ∀ s : State, s.mayExecute → s.readReg .eax = 0x80000006 → 0x80000006 ≤ s.cfg.LFuncExt →
    ∃ t, exec .cpuid s = .next t ∧
      bitsOf (t.readReg .eax) 31 28 = s.cfg.Fn8000_0006_EAX.L2DTlb2and4MAssoc ∧
      bitsOf (t.readReg .eax) 27 16 = s.cfg.Fn8000_0006_EAX.L2DTlb2and4MSize ∧
      bitsOf (t.readReg .eax) 15 12 = s.cfg.Fn8000_0006_EAX.L2ITlb2and4MAssoc ∧
      bitsOf (t.readReg .eax) 11 0 = s.cfg.Fn8000_0006_EAX.L2ITlb2and4MSize ∧
      bitsOf (t.readReg .ebx) 31 28 = s.cfg.Fn8000_0006_EBX.L2DTlb4KAssoc ∧
      bitsOf (t.readReg .ebx) 27 16 = s.cfg.Fn8000_0006_EBX.L2DTlb4KSize ∧
      bitsOf (t.readReg .ebx) 15 12 = s.cfg.Fn8000_0006_EBX.L2ITlb4KAssoc ∧
      bitsOf (t.readReg .ebx) 11 0 = s.cfg.Fn8000_0006_EBX.L2ITlb4KSize ∧
      bitsOf (t.readReg .ecx) 31 16 = s.cfg.Fn8000_0006_ECX.L2Size ∧
      bitsOf (t.readReg .ecx) 15 12 = s.cfg.Fn8000_0006_ECX.L2Assoc ∧
      bitsOf (t.readReg .ecx) 11 8 = s.cfg.Fn8000_0006_ECX.L2LinesPerTag ∧
      bitsOf (t.readReg .ecx) 7 0 = s.cfg.Fn8000_0006_ECX.L2LineSize ∧
      bitsOf (t.readReg .edx) 31 18 = s.cfg.Fn8000_0006_EDX.L3Size ∧
      bitsOf (t.readReg .edx) 15 12 = s.cfg.Fn8000_0006_EDX.L3Assoc ∧
      bitsOf (t.readReg .edx) 11 8 = s.cfg.Fn8000_0006_EDX.L3LinesPerTag ∧
      bitsOf (t.readReg .edx) 7 0 = s.cfg.Fn8000_0006_EDX.L3LineSize ∧
      (l2Associativity s.cfg.Fn8000_0006_EAX.L2DTlb2and4MAssoc ≠ .disabled →
        ∀ n affected, affected = false ∨ s.cfg.Fn8000_0021_EAX.L2TlbSizeX32 = 0 →
        (bitsOf (t.readReg .eax) 27 16).toNat = 2 * n →
        l2EntriesFor4M s.cfg affected s.cfg.Fn8000_0006_EAX.L2DTlb2and4MSize = some n) ∧
      (l2Associativity s.cfg.Fn8000_0006_EAX.L2ITlb2and4MAssoc ≠ .disabled →
        ∀ n affected, affected = false ∨ s.cfg.Fn8000_0021_EAX.L2TlbSizeX32 = 0 →
        (bitsOf (t.readReg .eax) 11 0).toNat = 2 * n →
        l2EntriesFor4M s.cfg affected s.cfg.Fn8000_0006_EAX.L2ITlb2and4MSize = some n) ∧
      kilobytes s.cfg.Fn8000_0006_ECX.L2Size = (bitsOf (t.readReg .ecx) 31 16).toNat * 1024 ∧
      l3SizeRange s.cfg.Fn8000_0006_EDX = ((bitsOf (t.readReg .edx) 31 18).toNat * (512 * 1024),
        ((bitsOf (t.readReg .edx) 31 18).toNat + 1) * (512 * 1024))

/-- With 8000_0007h in EAX and 8000_0007h at most LFuncExt, CPUID returns the fields of EBX, ECX and EDX. -/
def Obligations.Function8000_0007 : Prop :=
  ∀ s : State, s.mayExecute → s.readReg .eax = 0x80000007 → 0x80000007 ≤ s.cfg.LFuncExt →
    ∃ t, exec .cpuid s = .next t ∧
      bitsOf (t.readReg .ebx) 3 3 = s.cfg.Fn8000_0007_EBX.ScalableMca ∧
      bitsOf (t.readReg .ebx) 2 2 = s.cfg.Fn8000_0007_EBX.HWA ∧
      bitsOf (t.readReg .ebx) 1 1 = s.cfg.Fn8000_0007_EBX.SUCCOR ∧
      bitsOf (t.readReg .ebx) 0 0 = s.cfg.Fn8000_0007_EBX.McaOverflowRecov ∧
      t.readReg .ecx = s.cfg.Fn8000_0007_ECX.CpuPwrSampleTimeRatio ∧
      bitsOf (t.readReg .edx) 12 12 = s.cfg.Fn8000_0007_EDX.ProcPowerReporting ∧
      bitsOf (t.readReg .edx) 11 11 = s.cfg.Fn8000_0007_EDX.ProcFeedbackInterface ∧
      bitsOf (t.readReg .edx) 10 10 = s.cfg.Fn8000_0007_EDX.EffFreqRO ∧
      bitsOf (t.readReg .edx) 9 9 = s.cfg.Fn8000_0007_EDX.CPB ∧
      bitsOf (t.readReg .edx) 8 8 = s.cfg.Fn8000_0007_EDX.TscInvariant ∧
      bitsOf (t.readReg .edx) 7 7 = s.cfg.Fn8000_0007_EDX.HwPstate ∧
      bitsOf (t.readReg .edx) 6 6 = s.cfg.Fn8000_0007_EDX._100MHzSteps ∧
      bitsOf (t.readReg .edx) 4 4 = s.cfg.Fn8000_0007_EDX.TM ∧
      bitsOf (t.readReg .edx) 3 3 = s.cfg.Fn8000_0007_EDX.TTP ∧
      bitsOf (t.readReg .edx) 2 2 = s.cfg.Fn8000_0007_EDX.VID ∧
      bitsOf (t.readReg .edx) 1 1 = s.cfg.Fn8000_0007_EDX.FID ∧
      bitsOf (t.readReg .edx) 0 0 = s.cfg.Fn8000_0007_EDX.TS

/-- With 8000_0008h in EAX and 8000_0008h at most LFuncExt, CPUID returns the fields of EAX, EBX, ECX and EDX; the
guest physical address size is PhysAddrSize when its field is zero; the performance time-stamp counter has 40, 48, 56
or 64 bits; NC + 1 threads, and MNLP from ApicIdSize or, when that is zero, from NC. The rule for the guest physical
address size and the size of the counter are inferences of R236 and R238 (log entry 41); that the counter size is
given whatever PerfTsc is, is the model's choice (log entry 45). -/
def Obligations.Function8000_0008 : Prop :=
  ∀ s : State, s.mayExecute → s.readReg .eax = 0x80000008 → 0x80000008 ≤ s.cfg.LFuncExt →
    ∃ t, exec .cpuid s = .next t ∧
      bitsOf (t.readReg .eax) 23 16 = s.cfg.Fn8000_0008_EAX.GuestPhysAddrSize ∧
      bitsOf (t.readReg .eax) 15 8 = s.cfg.Fn8000_0008_EAX.LinAddrSize ∧
      bitsOf (t.readReg .eax) 7 0 = s.cfg.Fn8000_0008_EAX.PhysAddrSize ∧
      bitsOf (t.readReg .ebx) 30 30 = s.cfg.Fn8000_0008_EBX.IBPB_RET ∧
      bitsOf (t.readReg .ebx) 29 29 = s.cfg.Fn8000_0008_EBX.BTC_NO ∧
      bitsOf (t.readReg .ebx) 28 28 = s.cfg.Fn8000_0008_EBX.PSFD ∧
      bitsOf (t.readReg .ebx) 27 27 = s.cfg.Fn8000_0008_EBX.CPPC ∧
      bitsOf (t.readReg .ebx) 26 26 = s.cfg.Fn8000_0008_EBX.SsbdNotRequired ∧
      bitsOf (t.readReg .ebx) 25 25 = s.cfg.Fn8000_0008_EBX.SsbdVirtSpecCtrl ∧
      bitsOf (t.readReg .ebx) 24 24 = s.cfg.Fn8000_0008_EBX.SSBD ∧
      bitsOf (t.readReg .ebx) 21 21 = s.cfg.Fn8000_0008_EBX.INVLPGBnestedPages ∧
      bitsOf (t.readReg .ebx) 20 20 = s.cfg.Fn8000_0008_EBX.EferLmsleUnsupported ∧
      bitsOf (t.readReg .ebx) 19 19 = s.cfg.Fn8000_0008_EBX.IbrsSameMode ∧
      bitsOf (t.readReg .ebx) 18 18 = s.cfg.Fn8000_0008_EBX.IbrsPreferred ∧
      bitsOf (t.readReg .ebx) 17 17 = s.cfg.Fn8000_0008_EBX.StibpAlwaysOn ∧
      bitsOf (t.readReg .ebx) 16 16 = s.cfg.Fn8000_0008_EBX.IbrsAlwaysOn ∧
      bitsOf (t.readReg .ebx) 15 15 = s.cfg.Fn8000_0008_EBX.STIBP ∧
      bitsOf (t.readReg .ebx) 14 14 = s.cfg.Fn8000_0008_EBX.IBRS ∧
      bitsOf (t.readReg .ebx) 13 13 = s.cfg.Fn8000_0008_EBX.INT_WBINVD ∧
      bitsOf (t.readReg .ebx) 12 12 = s.cfg.Fn8000_0008_EBX.IBPB ∧
      bitsOf (t.readReg .ebx) 9 9 = s.cfg.Fn8000_0008_EBX.WBNOINVD ∧
      bitsOf (t.readReg .ebx) 8 8 = s.cfg.Fn8000_0008_EBX.MCOMMIT ∧
      bitsOf (t.readReg .ebx) 6 6 = s.cfg.Fn8000_0008_EBX.BE ∧
      bitsOf (t.readReg .ebx) 4 4 = s.cfg.Fn8000_0008_EBX.RDPRU ∧
      bitsOf (t.readReg .ebx) 3 3 = s.cfg.Fn8000_0008_EBX.INVLPGB ∧
      bitsOf (t.readReg .ebx) 2 2 = s.cfg.Fn8000_0008_EBX.RstrFpErrPtrs ∧
      bitsOf (t.readReg .ebx) 1 1 = s.cfg.Fn8000_0008_EBX.InstRetCntMsr ∧
      bitsOf (t.readReg .ebx) 0 0 = s.cfg.Fn8000_0008_EBX.CLZERO ∧
      bitsOf (t.readReg .ecx) 17 16 = s.cfg.Fn8000_0008_ECX.PerfTscSize ∧
      bitsOf (t.readReg .ecx) 15 12 = s.cfg.Fn8000_0008_ECX.ApicIdSize ∧
      bitsOf (t.readReg .ecx) 7 0 = s.cfg.Fn8000_0008_ECX.NC ∧
      bitsOf (t.readReg .edx) 31 16 = s.cfg.Fn8000_0008_EDX.MaxRdpruID ∧
      bitsOf (t.readReg .edx) 15 0 = s.cfg.Fn8000_0008_EDX.InvlpgbCountMax ∧
      guestPhysAddrBits s.cfg.Fn8000_0008_EAX = (if bitsOf (t.readReg .eax) 23 16 = 0
        then (bitsOf (t.readReg .eax) 7 0).toNat else (bitsOf (t.readReg .eax) 23 16).toNat) ∧
      perfTscBits s.cfg.Fn8000_0008_ECX = (if bitsOf (t.readReg .ecx) 17 16 = 0 then 40
        else if bitsOf (t.readReg .ecx) 17 16 = 1 then 48
        else if bitsOf (t.readReg .ecx) 17 16 = 2 then 56 else 64) ∧
      logicalProcessors s.cfg = (bitsOf (t.readReg .ecx) 7 0).toNat + 1 ∧
      mnlp s.cfg = (if bitsOf (t.readReg .ecx) 15 12 = 0 then (bitsOf (t.readReg .ecx) 7 0).toNat + 1
        else 2 ^ (bitsOf (t.readReg .ecx) 15 12).toNat)

/-- With 8000_000Ah in EAX, 8000_000Ah at most LFuncExt and SVM supported, CPUID returns SvmRev, NASID, x2AVIC_EXT and
the SVM feature bits of EDX. -/
def Obligations.Function8000_000A : Prop :=
  ∀ s : State, s.mayExecute →
    s.readReg .eax = 0x8000000A →
    0x8000000A ≤ s.cfg.LFuncExt →
    s.cfg.Fn8000_0001_ECX.SVM = 1 →
    ∃ t, exec .cpuid s = .next t ∧
      bitsOf (t.readReg .eax) 7 0 = s.cfg.Fn8000_000A_EAX.SvmRev ∧
      t.readReg .ebx = s.cfg.Fn8000_000A_EBX.NASID ∧
      bitsOf (t.readReg .ecx) 6 6 = s.cfg.Fn8000_000A_ECX.x2AVIC_EXT ∧
      bitsOf (t.readReg .edx) 30 30 = s.cfg.Fn8000_000A_EDX.IdleHltIntercept ∧
      bitsOf (t.readReg .edx) 29 29 = s.cfg.Fn8000_000A_EDX.BusLockThreshold ∧
      bitsOf (t.readReg .edx) 28 28 = s.cfg.Fn8000_000A_EDX.NestedVirtVmcbAddrChk ∧
      bitsOf (t.readReg .edx) 27 27 = s.cfg.Fn8000_000A_EDX.ExtLvtAvicAccessChg ∧
      bitsOf (t.readReg .edx) 26 26 = s.cfg.Fn8000_000A_EDX.IbsVirt ∧
      bitsOf (t.readReg .edx) 25 25 = s.cfg.Fn8000_000A_EDX.VNMI ∧
      bitsOf (t.readReg .edx) 24 24 = s.cfg.Fn8000_000A_EDX.TlbiCtl ∧
      bitsOf (t.readReg .edx) 23 23 = s.cfg.Fn8000_000A_EDX.HOST_MCE_OVERRIDE ∧
      bitsOf (t.readReg .edx) 21 21 = s.cfg.Fn8000_000A_EDX.ROGPT ∧
      bitsOf (t.readReg .edx) 20 20 = s.cfg.Fn8000_000A_EDX.SpecCtrl ∧
      bitsOf (t.readReg .edx) 19 19 = s.cfg.Fn8000_000A_EDX.SSSCheck ∧
      bitsOf (t.readReg .edx) 18 18 = s.cfg.Fn8000_000A_EDX.x2AVIC ∧
      bitsOf (t.readReg .edx) 17 17 = s.cfg.Fn8000_000A_EDX.GMET ∧
      bitsOf (t.readReg .edx) 16 16 = s.cfg.Fn8000_000A_EDX.VGIF ∧
      bitsOf (t.readReg .edx) 15 15 = s.cfg.Fn8000_000A_EDX.VMSAVEvirt ∧
      bitsOf (t.readReg .edx) 13 13 = s.cfg.Fn8000_000A_EDX.AVIC ∧
      bitsOf (t.readReg .edx) 12 12 = s.cfg.Fn8000_000A_EDX.PauseFilterThreshold ∧
      bitsOf (t.readReg .edx) 10 10 = s.cfg.Fn8000_000A_EDX.PauseFilter ∧
      bitsOf (t.readReg .edx) 8 8 = s.cfg.Fn8000_000A_EDX.PmcVirt ∧
      bitsOf (t.readReg .edx) 7 7 = s.cfg.Fn8000_000A_EDX.DecodeAssists ∧
      bitsOf (t.readReg .edx) 6 6 = s.cfg.Fn8000_000A_EDX.FlushByAsid ∧
      bitsOf (t.readReg .edx) 5 5 = s.cfg.Fn8000_000A_EDX.VmcbClean ∧
      bitsOf (t.readReg .edx) 4 4 = s.cfg.Fn8000_000A_EDX.TscRateMsr ∧
      bitsOf (t.readReg .edx) 3 3 = s.cfg.Fn8000_000A_EDX.NRIPS ∧
      bitsOf (t.readReg .edx) 2 2 = s.cfg.Fn8000_000A_EDX.SVML ∧
      bitsOf (t.readReg .edx) 1 1 = s.cfg.Fn8000_000A_EDX.LbrVirt ∧
      bitsOf (t.readReg .edx) 0 0 = s.cfg.Fn8000_000A_EDX.NP

/-- With 8000_0019h, 8000_001Ah or 8000_001Bh in EAX and that number at most LFuncExt, CPUID returns the
associativities and sizes of the four 1-GB TLBs; FP256, MOVU and FP128; and, when IBS is supported, the ten IBS
feature bits of EAX. -/
def Obligations.Functions8000_0019To8000_001B : Prop :=
  ∀ s : State, s.mayExecute →
    (s.readReg .eax = 0x80000019 → 0x80000019 ≤ s.cfg.LFuncExt →
      ∃ t, exec .cpuid s = .next t ∧
        bitsOf (t.readReg .eax) 31 28 = s.cfg.Fn8000_0019_EAX.L1DTlb1GAssoc ∧
        bitsOf (t.readReg .eax) 27 16 = s.cfg.Fn8000_0019_EAX.L1DTlb1GSize ∧
        bitsOf (t.readReg .eax) 15 12 = s.cfg.Fn8000_0019_EAX.L1ITlb1GAssoc ∧
        bitsOf (t.readReg .eax) 11 0 = s.cfg.Fn8000_0019_EAX.L1ITlb1GSize ∧
        bitsOf (t.readReg .ebx) 31 28 = s.cfg.Fn8000_0019_EBX.L2DTlb1GAssoc ∧
        bitsOf (t.readReg .ebx) 27 16 = s.cfg.Fn8000_0019_EBX.L2DTlb1GSize ∧
        bitsOf (t.readReg .ebx) 15 12 = s.cfg.Fn8000_0019_EBX.L2ITlb1GAssoc ∧
        bitsOf (t.readReg .ebx) 11 0 = s.cfg.Fn8000_0019_EBX.L2ITlb1GSize) ∧
    (s.readReg .eax = 0x8000001A → 0x8000001A ≤ s.cfg.LFuncExt →
      ∃ t, exec .cpuid s = .next t ∧
        bitsOf (t.readReg .eax) 2 2 = s.cfg.Fn8000_001A_EAX.FP256 ∧
        bitsOf (t.readReg .eax) 1 1 = s.cfg.Fn8000_001A_EAX.MOVU ∧
        bitsOf (t.readReg .eax) 0 0 = s.cfg.Fn8000_001A_EAX.FP128) ∧
    (s.readReg .eax = 0x8000001B → 0x8000001B ≤ s.cfg.LFuncExt → s.cfg.Fn8000_0001_ECX.IBS = 1 →
      ∃ t, exec .cpuid s = .next t ∧
        bitsOf (t.readReg .eax) 11 11 = s.cfg.Fn8000_001B_EAX.IbsL3MissFiltering ∧
        bitsOf (t.readReg .eax) 8 8 = s.cfg.Fn8000_001B_EAX.OpBrnFuse ∧
        bitsOf (t.readReg .eax) 7 7 = s.cfg.Fn8000_001B_EAX.RipInvalidChk ∧
        bitsOf (t.readReg .eax) 6 6 = s.cfg.Fn8000_001B_EAX.OpCntExt ∧
        bitsOf (t.readReg .eax) 5 5 = s.cfg.Fn8000_001B_EAX.BrnTrgt ∧
        bitsOf (t.readReg .eax) 4 4 = s.cfg.Fn8000_001B_EAX.OpCnt ∧
        bitsOf (t.readReg .eax) 3 3 = s.cfg.Fn8000_001B_EAX.RdWrOpCnt ∧
        bitsOf (t.readReg .eax) 2 2 = s.cfg.Fn8000_001B_EAX.OpSam ∧
        bitsOf (t.readReg .eax) 1 1 = s.cfg.Fn8000_001B_EAX.FetchSam ∧
        bitsOf (t.readReg .eax) 0 0 = s.cfg.Fn8000_001B_EAX.IBSFFV)

/-- With 8000_001Ch in EAX, 8000_001Ch at most LFuncExt and LWP supported, CPUID returns the LWP fields of EAX, EBX,
ECX and EDX; the LWPCB has LwpCbSize quadwords of 8 bytes, and the smallest ring buffer holds 32 * LwpMinBufferSize
records of LwpEventSize bytes. The size of that buffer is an inference of R270 (log entry 41). -/
def Obligations.Function8000_001C : Prop :=
  ∀ s : State, s.mayExecute →
    s.readReg .eax = 0x8000001C →
    0x8000001C ≤ s.cfg.LFuncExt →
    s.cfg.Fn8000_0001_ECX.LWP = 1 →
    ∃ t, exec .cpuid s = .next t ∧
      bitsOf (t.readReg .eax) 31 31 = s.cfg.Fn8000_001C_EAX.LwpInt ∧
      bitsOf (t.readReg .eax) 30 30 = s.cfg.Fn8000_001C_EAX.LwpPTSC ∧
      bitsOf (t.readReg .eax) 29 29 = s.cfg.Fn8000_001C_EAX.LwpCont ∧
      bitsOf (t.readReg .eax) 6 6 = s.cfg.Fn8000_001C_EAX.LwpRNH ∧
      bitsOf (t.readReg .eax) 5 5 = s.cfg.Fn8000_001C_EAX.LwpCNH ∧
      bitsOf (t.readReg .eax) 4 4 = s.cfg.Fn8000_001C_EAX.LwpDME ∧
      bitsOf (t.readReg .eax) 3 3 = s.cfg.Fn8000_001C_EAX.LwpBRE ∧
      bitsOf (t.readReg .eax) 2 2 = s.cfg.Fn8000_001C_EAX.LwpIRE ∧
      bitsOf (t.readReg .eax) 1 1 = s.cfg.Fn8000_001C_EAX.LwpVAL ∧
      bitsOf (t.readReg .eax) 0 0 = s.cfg.Fn8000_001C_EAX.LwpAvail ∧
      bitsOf (t.readReg .ebx) 31 24 = s.cfg.Fn8000_001C_EBX.LwpEventOffset ∧
      bitsOf (t.readReg .ebx) 23 16 = s.cfg.Fn8000_001C_EBX.LwpMaxEvents ∧
      bitsOf (t.readReg .ebx) 15 8 = s.cfg.Fn8000_001C_EBX.LwpEventSize ∧
      bitsOf (t.readReg .ebx) 7 0 = s.cfg.Fn8000_001C_EBX.LwpCbSize ∧
      bitsOf (t.readReg .ecx) 31 31 = s.cfg.Fn8000_001C_ECX.LwpCacheLatency ∧
      bitsOf (t.readReg .ecx) 30 30 = s.cfg.Fn8000_001C_ECX.LwpCacheLevels ∧
      bitsOf (t.readReg .ecx) 29 29 = s.cfg.Fn8000_001C_ECX.LwpIpFiltering ∧
      bitsOf (t.readReg .ecx) 28 28 = s.cfg.Fn8000_001C_ECX.LwpBranchPrediction ∧
      bitsOf (t.readReg .ecx) 23 16 = s.cfg.Fn8000_001C_ECX.LwpMinBufferSize ∧
      bitsOf (t.readReg .ecx) 15 9 = s.cfg.Fn8000_001C_ECX.LwpVersion ∧
      bitsOf (t.readReg .ecx) 8 6 = s.cfg.Fn8000_001C_ECX.LwpLatencyRnd ∧
      bitsOf (t.readReg .ecx) 5 5 = s.cfg.Fn8000_001C_ECX.LwpDataAddress ∧
      bitsOf (t.readReg .ecx) 4 0 = s.cfg.Fn8000_001C_ECX.LwpLatencyMax ∧
      bitsOf (t.readReg .edx) 31 31 = s.cfg.Fn8000_001C_EDX.LwpInt ∧
      bitsOf (t.readReg .edx) 30 30 = s.cfg.Fn8000_001C_EDX.LwpPTSC ∧
      bitsOf (t.readReg .edx) 29 29 = s.cfg.Fn8000_001C_EDX.LwpCont ∧
      bitsOf (t.readReg .edx) 6 6 = s.cfg.Fn8000_001C_EDX.LwpRNH ∧
      bitsOf (t.readReg .edx) 5 5 = s.cfg.Fn8000_001C_EDX.LwpCNH ∧
      bitsOf (t.readReg .edx) 4 4 = s.cfg.Fn8000_001C_EDX.LwpDME ∧
      bitsOf (t.readReg .edx) 3 3 = s.cfg.Fn8000_001C_EDX.LwpBRE ∧
      bitsOf (t.readReg .edx) 2 2 = s.cfg.Fn8000_001C_EDX.LwpIRE ∧
      bitsOf (t.readReg .edx) 1 1 = s.cfg.Fn8000_001C_EDX.LwpVAL ∧
      bitsOf (t.readReg .edx) 0 0 = s.cfg.Fn8000_001C_EDX.LwpAvail ∧
      lwpcbBytes s.cfg.Fn8000_001C_EBX = 8 * (bitsOf (t.readReg .ebx) 7 0).toNat ∧
      lwpMinRecords s.cfg.Fn8000_001C_ECX = (bitsOf (t.readReg .ecx) 23 16).toNat * 32 ∧
      lwpMinBytes s.cfg = (bitsOf (t.readReg .ecx) 23 16).toNat * 32 * (bitsOf (t.readReg .ebx) 15 8).toNat

/-- With 8000_001Dh in EAX, 8000_001Dh at most LFuncExt and TopologyExtensions set, when ECX is the number of an
enumerated cache CPUID returns its fields (CacheNumSets when it is not fully associative); sharers, ways, partitions,
line size and sets are the fields incremented by 1, and ShareId is the 8-bit LocalApicId, as the source writes it,
shifted by the least s with 2^s at least the number of sharers. -/
def Obligations.Function8000_001DCache : Prop :=
  ∀ (s : State) (c : Record.Cache), s.mayExecute →
    s.readReg .eax = 0x8000001D →
    0x8000001D ≤ s.cfg.LFuncExt →
    s.cfg.Fn8000_0001_ECX.TopologyExtensions = 1 →
    s.cfg.Fn8000_001D_x[(s.readReg .ecx).toNat]? = some c →
    ∃ t, exec .cpuid s = .next t ∧
      bitsOf (t.readReg .eax) 25 14 = c.EAX.NumSharingCache ∧
      bitsOf (t.readReg .eax) 9 9 = c.EAX.FullyAssociative ∧
      bitsOf (t.readReg .eax) 8 8 = c.EAX.SelfInitialization ∧
      bitsOf (t.readReg .eax) 7 5 = c.EAX.CacheLevel ∧
      bitsOf (t.readReg .eax) 4 0 = c.EAX.CacheType ∧
      bitsOf (t.readReg .ebx) 31 22 = c.EBX.CacheNumWays ∧
      bitsOf (t.readReg .ebx) 21 12 = c.EBX.CachePhysPartitions ∧
      bitsOf (t.readReg .ebx) 11 0 = c.EBX.CacheLineSize ∧
      (c.EAX.FullyAssociative = 0 → t.readReg .ecx = c.ECX.CacheNumSets) ∧
      bitsOf (t.readReg .edx) 1 1 = c.EDX.CacheInclusive ∧
      bitsOf (t.readReg .edx) 0 0 = c.EDX.WBINVD ∧
      cacheSharers c = (bitsOf (t.readReg .eax) 25 14).toNat + 1 ∧
      (∀ k, cacheSharers c ≤ 2 ^ k → (∀ j, j < k → 2 ^ j < cacheSharers c) →
        shareId s.cfg.Fn0000_0001_EBX.LocalApicId (cacheSharers c) = s.cfg.Fn0000_0001_EBX.LocalApicId >>> k) ∧
      cacheWays c = (bitsOf (t.readReg .ebx) 31 22).toNat + 1 ∧
      cachePartitions c = (bitsOf (t.readReg .ebx) 21 12).toNat + 1 ∧
      cacheLineBytes c = (bitsOf (t.readReg .ebx) 11 0).toNat + 1 ∧
      (bitsOf (t.readReg .eax) 9 9 = 0 → cacheSets c = some ((t.readReg .ecx).toNat + 1))

/-- With 8000_001Dh in EAX, 8000_001Dh at most LFuncExt and TopologyExtensions set, when ECX does not select an
existing cache CPUID returns the Null cache type 0 in EAX[4:0]. -/
def Obligations.Function8000_001DNull : Prop :=
  ∀ s : State, s.mayExecute →
    s.readReg .eax = 0x8000001D →
    0x8000001D ≤ s.cfg.LFuncExt →
    s.cfg.Fn8000_0001_ECX.TopologyExtensions = 1 →
    s.cfg.NumCaches ≤ (s.readReg .ecx).toNat →
    ∃ t, exec .cpuid s = .next t ∧
      bitsOf (t.readReg .eax) 4 0 = 0

/-- With 8000_001Eh in EAX, 8000_001Eh at most LFuncExt and TopologyExtensions set, CPUID returns ExtendedApicId (when
ApicEn is 1), ThreadsPerComputeUnit, ComputeUnitId, NodesPerProcessor and NodeId; threads and nodes are the fields +
1, and ShareId is LocalApicId shifted by the least s with 2^s at least the number of threads. -/
def Obligations.Function8000_001E : Prop :=
  ∀ s : State, s.mayExecute →
    s.readReg .eax = 0x8000001E →
    0x8000001E ≤ s.cfg.LFuncExt →
    s.cfg.Fn8000_0001_ECX.TopologyExtensions = 1 →
    ∃ t, exec .cpuid s = .next t ∧
      (s.env.ApicEn = 1 → t.readReg .eax = s.cfg.Fn8000_001E_EAX.ExtendedApicId) ∧
      bitsOf (t.readReg .ebx) 15 8 = s.cfg.Fn8000_001E_EBX.ThreadsPerComputeUnit ∧
      bitsOf (t.readReg .ebx) 7 0 = s.cfg.Fn8000_001E_EBX.ComputeUnitId ∧
      bitsOf (t.readReg .ecx) 10 8 = s.cfg.Fn8000_001E_ECX.NodesPerProcessor ∧
      bitsOf (t.readReg .ecx) 7 0 = s.cfg.Fn8000_001E_ECX.NodeId ∧
      threadsPerUnit s.cfg.Fn8000_001E_EBX = (bitsOf (t.readReg .ebx) 15 8).toNat + 1 ∧
      (∀ k, threadsPerUnit s.cfg.Fn8000_001E_EBX ≤ 2 ^ k → (∀ j, j < k → 2 ^ j < threadsPerUnit s.cfg.Fn8000_001E_EBX) →
        shareId s.cfg.Fn0000_0001_EBX.LocalApicId (threadsPerUnit s.cfg.Fn8000_001E_EBX) =
          s.cfg.Fn0000_0001_EBX.LocalApicId >>> k) ∧
      nodesPerPackage s.cfg.Fn8000_001E_ECX = (bitsOf (t.readReg .ecx) 10 8).toNat + 1

/-- With 8000_001Fh in EAX and 8000_001Fh at most LFuncExt, CPUID returns all 32 bits of EAX and the fields of EBX,
ECX and EDX. -/
def Obligations.Function8000_001F : Prop :=
  ∀ s : State, s.mayExecute → s.readReg .eax = 0x8000001F → 0x8000001F ≤ s.cfg.LFuncExt →
    ∃ t, exec .cpuid s = .next t ∧
      bitsOf (t.readReg .eax) 31 31 = s.cfg.Fn8000_001F_EAX.IbpbOnEntry ∧
      bitsOf (t.readReg .eax) 30 30 = s.cfg.Fn8000_001F_EAX.HvInUseWrAllowed ∧
      bitsOf (t.readReg .eax) 29 29 = s.cfg.Fn8000_001F_EAX.NestedVirtSnpMsr ∧
      bitsOf (t.readReg .eax) 28 28 = s.cfg.Fn8000_001F_EAX.SvsmCommPageMsr ∧
      bitsOf (t.readReg .eax) 27 27 = s.cfg.Fn8000_001F_EAX.AllowedSevFeatures ∧
      bitsOf (t.readReg .eax) 26 26 = s.cfg.Fn8000_001F_EAX.SecureAvic ∧
      bitsOf (t.readReg .eax) 25 25 = s.cfg.Fn8000_001F_EAX.SmtProtection ∧
      bitsOf (t.readReg .eax) 24 24 = s.cfg.Fn8000_001F_EAX.VmsaRegProt ∧
      bitsOf (t.readReg .eax) 23 23 = s.cfg.Fn8000_001F_EAX.SegmentedRmp ∧
      bitsOf (t.readReg .eax) 22 22 = s.cfg.Fn8000_001F_EAX.GuestInterceptCtl ∧
      bitsOf (t.readReg .eax) 21 21 = s.cfg.Fn8000_001F_EAX.RMPREAD ∧
      bitsOf (t.readReg .eax) 20 20 = s.cfg.Fn8000_001F_EAX.PmcVirtGuestCtl ∧
      bitsOf (t.readReg .eax) 19 19 = s.cfg.Fn8000_001F_EAX.IbsVirtGuestCtl ∧
      bitsOf (t.readReg .eax) 18 18 = s.cfg.Fn8000_001F_EAX.VirtualTomMsr ∧
      bitsOf (t.readReg .eax) 17 17 = s.cfg.Fn8000_001F_EAX.VmgexitParameter ∧
      bitsOf (t.readReg .eax) 16 16 = s.cfg.Fn8000_001F_EAX.VTE ∧
      bitsOf (t.readReg .eax) 15 15 = s.cfg.Fn8000_001F_EAX.PreventHostIbs ∧
      bitsOf (t.readReg .eax) 14 14 = s.cfg.Fn8000_001F_EAX.DebugVirt ∧
      bitsOf (t.readReg .eax) 13 13 = s.cfg.Fn8000_001F_EAX.AlternateInjection ∧
      bitsOf (t.readReg .eax) 12 12 = s.cfg.Fn8000_001F_EAX.RestrictedInjection ∧
      bitsOf (t.readReg .eax) 11 11 = s.cfg.Fn8000_001F_EAX._64BitHost ∧
      bitsOf (t.readReg .eax) 10 10 = s.cfg.Fn8000_001F_EAX.HwEnfCacheCoh ∧
      bitsOf (t.readReg .eax) 9 9 = s.cfg.Fn8000_001F_EAX.TscAuxVirtualization ∧
      bitsOf (t.readReg .eax) 8 8 = s.cfg.Fn8000_001F_EAX.SecureTsc ∧
      bitsOf (t.readReg .eax) 7 7 = s.cfg.Fn8000_001F_EAX.VmplSSS ∧
      bitsOf (t.readReg .eax) 6 6 = s.cfg.Fn8000_001F_EAX.RMPQUERY ∧
      bitsOf (t.readReg .eax) 5 5 = s.cfg.Fn8000_001F_EAX.VMPL ∧
      bitsOf (t.readReg .eax) 4 4 = s.cfg.Fn8000_001F_EAX.SEV_SNP ∧
      bitsOf (t.readReg .eax) 3 3 = s.cfg.Fn8000_001F_EAX.SEV_ES ∧
      bitsOf (t.readReg .eax) 2 2 = s.cfg.Fn8000_001F_EAX.PageFlushMsr ∧
      bitsOf (t.readReg .eax) 1 1 = s.cfg.Fn8000_001F_EAX.SEV ∧
      bitsOf (t.readReg .eax) 0 0 = s.cfg.Fn8000_001F_EAX.SME ∧
      bitsOf (t.readReg .ebx) 15 12 = s.cfg.Fn8000_001F_EBX.NumVMPL ∧
      bitsOf (t.readReg .ebx) 11 6 = s.cfg.Fn8000_001F_EBX.PhysAddrReduction ∧
      bitsOf (t.readReg .ebx) 5 0 = s.cfg.Fn8000_001F_EBX.CbitPosition ∧
      t.readReg .ecx = s.cfg.Fn8000_001F_ECX.NumEncryptedGuests ∧
      t.readReg .edx = s.cfg.Fn8000_001F_EDX.MinSevNoEsAsid

/-- With 8000_0020h in EAX and 8000_0020h at most LFuncExt: subfunction 0 returns the six feature bits of EBX;
subfunctions 1, 2, 3 and 5, where L3MBE, L3SMBE, BMEC and ABMC are 1, return their fields; an ABMC counter has 24 +
CounterSize bits where CounterSize is not 0. -/
def Obligations.Function8000_0020 : Prop :=
  ∀ s : State, s.mayExecute → s.readReg .eax = 0x80000020 → 0x80000020 ≤ s.cfg.LFuncExt →
    ∃ t, exec .cpuid s = .next t ∧
      (s.readReg .ecx = 0 →
        bitsOf (t.readReg .ebx) 6 6 = s.cfg.Fn8000_0020_EBX_x0.SDCIAE ∧
        bitsOf (t.readReg .ebx) 5 5 = s.cfg.Fn8000_0020_EBX_x0.ABMC ∧
        bitsOf (t.readReg .ebx) 4 4 = s.cfg.Fn8000_0020_EBX_x0.L3RR ∧
        bitsOf (t.readReg .ebx) 3 3 = s.cfg.Fn8000_0020_EBX_x0.BMEC ∧
        bitsOf (t.readReg .ebx) 2 2 = s.cfg.Fn8000_0020_EBX_x0.L3SMBE ∧
        bitsOf (t.readReg .ebx) 1 1 = s.cfg.Fn8000_0020_EBX_x0.L3MBE) ∧
      (s.readReg .ecx = 1 → s.cfg.Fn8000_0020_EBX_x0.L3MBE = 1 →
        t.readReg .eax = s.cfg.Fn8000_0020_EAX_x1.BW_LEN ∧
        t.readReg .edx = s.cfg.Fn8000_0020_EDX_x1.COS_MAX) ∧
      (s.readReg .ecx = 2 → s.cfg.Fn8000_0020_EBX_x0.L3SMBE = 1 →
        t.readReg .eax = s.cfg.Fn8000_0020_EAX_x2.BW_LEN ∧
        t.readReg .edx = s.cfg.Fn8000_0020_EDX_x2.COS_MAX) ∧
      (s.readReg .ecx = 3 → s.cfg.Fn8000_0020_EBX_x0.BMEC = 1 →
        bitsOf (t.readReg .ebx) 7 0 = s.cfg.Fn8000_0020_EBX_x3.EVT_NUM ∧
        bitsOf (t.readReg .ecx) 6 6 = s.cfg.Fn8000_0020_ECX_x3.L3CacheVicMon ∧
        bitsOf (t.readReg .ecx) 5 5 = s.cfg.Fn8000_0020_ECX_x3.L3CacheRmtSlowBwFillMon ∧
        bitsOf (t.readReg .ecx) 4 4 = s.cfg.Fn8000_0020_ECX_x3.L3CacheLclSlowBwFillMon ∧
        bitsOf (t.readReg .ecx) 3 3 = s.cfg.Fn8000_0020_ECX_x3.L3CacheRmtBwNtWrMon ∧
        bitsOf (t.readReg .ecx) 2 2 = s.cfg.Fn8000_0020_ECX_x3.L3CacheLclBwNtWrMon ∧
        bitsOf (t.readReg .ecx) 1 1 = s.cfg.Fn8000_0020_ECX_x3.L3CacheRmtBwFillMon ∧
        bitsOf (t.readReg .ecx) 0 0 = s.cfg.Fn8000_0020_ECX_x3.L3CacheLclBwFillMon) ∧
      (s.readReg .ecx = 5 → s.cfg.Fn8000_0020_EBX_x0.ABMC = 1 →
        bitsOf (t.readReg .eax) 8 8 = s.cfg.Fn8000_0020_EAX_x5.OverflowBit ∧
        bitsOf (t.readReg .eax) 7 0 = s.cfg.Fn8000_0020_EAX_x5.CounterSize ∧
        bitsOf (t.readReg .ebx) 15 0 = s.cfg.Fn8000_0020_EBX_x5.MAX_ABMC ∧
        bitsOf (t.readReg .ecx) 0 0 = s.cfg.Fn8000_0020_ECX_x5.Select_COS ∧
        (bitsOf (t.readReg .eax) 7 0 ≠ 0 → counterWidth s.cfg.Fn8000_0020_EAX_x5.CounterSize =
          some (24 + (bitsOf (t.readReg .eax) 7 0).toNat)))

/-- With 8000_0021h in EAX and 8000_0021h at most LFuncExt, CPUID returns the feature bits of EAX, RapSize and
MicrocodePatchSize; the patch size in bytes is 16 times that field, and at most 5568 when it is 0. -/
def Obligations.Function8000_0021 : Prop :=
  ∀ s : State, s.mayExecute → s.readReg .eax = 0x80000021 → 0x80000021 ≤ s.cfg.LFuncExt →
    ∃ t, exec .cpuid s = .next t ∧
      bitsOf (t.readReg .eax) 31 31 = s.cfg.Fn8000_0021_EAX.SRSO_MSR_FIX ∧
      bitsOf (t.readReg .eax) 30 30 = s.cfg.Fn8000_0021_EAX.SRSO_USER_KERNEL_NO ∧
      bitsOf (t.readReg .eax) 29 29 = s.cfg.Fn8000_0021_EAX.SRSO_NO ∧
      bitsOf (t.readReg .eax) 28 28 = s.cfg.Fn8000_0021_EAX.IBPB_BRTYPE ∧
      bitsOf (t.readReg .eax) 27 27 = s.cfg.Fn8000_0021_EAX.SBPB ∧
      bitsOf (t.readReg .eax) 24 24 = s.cfg.Fn8000_0021_EAX.ERAPS ∧
      bitsOf (t.readReg .eax) 21 21 = s.cfg.Fn8000_0021_EAX.FP512_DOWNGRADE ∧
      bitsOf (t.readReg .eax) 20 20 = s.cfg.Fn8000_0021_EAX.PREFETCHI ∧
      bitsOf (t.readReg .eax) 19 19 = s.cfg.Fn8000_0021_EAX.FAST_REP_SCASB ∧
      bitsOf (t.readReg .eax) 18 18 = s.cfg.Fn8000_0021_EAX.EPSF ∧
      bitsOf (t.readReg .eax) 17 17 = s.cfg.Fn8000_0021_EAX.CpuidUserDis ∧
      bitsOf (t.readReg .eax) 16 16 = s.cfg.Fn8000_0021_EAX.Opcode0F017Reclaim ∧
      bitsOf (t.readReg .eax) 15 15 = s.cfg.Fn8000_0021_EAX.AMD_ERMSB ∧
      bitsOf (t.readReg .eax) 14 14 = s.cfg.Fn8000_0021_EAX.L2TlbSizeX32 ∧
      bitsOf (t.readReg .eax) 13 13 = s.cfg.Fn8000_0021_EAX.PrefetchCtlMsr ∧
      bitsOf (t.readReg .eax) 12 12 = s.cfg.Fn8000_0021_EAX.Pmc2PreciseRetire ∧
      bitsOf (t.readReg .eax) 11 11 = s.cfg.Fn8000_0021_EAX.FastShortRepeCmpsbs ∧
      bitsOf (t.readReg .eax) 10 10 = s.cfg.Fn8000_0021_EAX.FastShortRepStosb ∧
      bitsOf (t.readReg .eax) 9 9 = s.cfg.Fn8000_0021_EAX.NoSmmCtlMSR ∧
      bitsOf (t.readReg .eax) 8 8 = s.cfg.Fn8000_0021_EAX.AutomaticIBRS ∧
      bitsOf (t.readReg .eax) 7 7 = s.cfg.Fn8000_0021_EAX.UpperAddressIgnore ∧
      bitsOf (t.readReg .eax) 6 6 = s.cfg.Fn8000_0021_EAX.NullSelectClearsBase ∧
      bitsOf (t.readReg .eax) 3 3 = s.cfg.Fn8000_0021_EAX.SmmPgCfgLock ∧
      bitsOf (t.readReg .eax) 2 2 = s.cfg.Fn8000_0021_EAX.LFenceAlwaysSerializing ∧
      bitsOf (t.readReg .eax) 1 1 = s.cfg.Fn8000_0021_EAX.FsGsBaseWriteNotSerializing ∧
      bitsOf (t.readReg .eax) 0 0 = s.cfg.Fn8000_0021_EAX.NoNestedDataBp ∧
      bitsOf (t.readReg .ebx) 23 16 = s.cfg.Fn8000_0021_EBX.RapSize ∧
      bitsOf (t.readReg .ebx) 15 0 = s.cfg.Fn8000_0021_EBX.MicrocodePatchSize ∧
      (bitsOf (t.readReg .ebx) 15 0 ≠ 0 →
        patchBytes s.cfg.Fn8000_0021_EBX = some (16 * (bitsOf (t.readReg .ebx) 15 0).toNat)) ∧
      (bitsOf (t.readReg .ebx) 15 0 = 0 →
        patchBytes s.cfg.Fn8000_0021_EBX = none ∧ patchBound s.cfg.Fn8000_0021_EBX = 5568)

/-- With 8000_0022h, 8000_0023h or 8000_0025h in EAX and that number at most LFuncExt, CPUID returns LbrAndPmcFreeze,
LbrStack, PerfMonV2 and the three counts of EBX; MemHmk and MaxMemHmkEncrKeyID; and MaxRmpSegSize, MinRmpSegSize,
NumSegReduction and NumCachedSegments. -/
def Obligations.Functions8000_0022To8000_0025 : Prop :=
  ∀ s : State, s.mayExecute →
    (s.readReg .eax = 0x80000022 → 0x80000022 ≤ s.cfg.LFuncExt →
      ∃ t, exec .cpuid s = .next t ∧
        bitsOf (t.readReg .eax) 2 2 = s.cfg.Fn8000_0022_EAX.LbrAndPmcFreeze ∧
        bitsOf (t.readReg .eax) 1 1 = s.cfg.Fn8000_0022_EAX.LbrStack ∧
        bitsOf (t.readReg .eax) 0 0 = s.cfg.Fn8000_0022_EAX.PerfMonV2 ∧
        bitsOf (t.readReg .ebx) 15 10 = s.cfg.Fn8000_0022_EBX.NumPerfCtrNB ∧
        bitsOf (t.readReg .ebx) 9 4 = s.cfg.Fn8000_0022_EBX.LbrStackSize ∧
        bitsOf (t.readReg .ebx) 3 0 = s.cfg.Fn8000_0022_EBX.NumPerfCtrCore) ∧
    (s.readReg .eax = 0x80000023 → 0x80000023 ≤ s.cfg.LFuncExt →
      ∃ t, exec .cpuid s = .next t ∧
        bitsOf (t.readReg .eax) 0 0 = s.cfg.Fn8000_0023_EAX.MemHmk ∧
        bitsOf (t.readReg .ebx) 15 0 = s.cfg.Fn8000_0023_EBX.MaxMemHmkEncrKeyID) ∧
    (s.readReg .eax = 0x80000025 → 0x80000025 ≤ s.cfg.LFuncExt →
      ∃ t, exec .cpuid s = .next t ∧
        bitsOf (t.readReg .eax) 11 6 = s.cfg.Fn8000_0025_EAX.MaxRmpSegSize ∧
        bitsOf (t.readReg .eax) 5 0 = s.cfg.Fn8000_0025_EAX.MinRmpSegSize ∧
        bitsOf (t.readReg .ebx) 10 10 = s.cfg.Fn8000_0025_EBX.NumSegReduction ∧
        bitsOf (t.readReg .ebx) 9 0 = s.cfg.Fn8000_0025_EBX.NumCachedSegments)

/-- With 8000_0026h in EAX and 8000_0026h at most LFuncExt, when ECX is the number of an enumerated level CPUID
returns the level's fields in EAX, EBX and ECX (EfficiencyRankingAvailable, CoreType, NativeModelID and
PwrEfficiencyRanking when LevelType is 1) and the low byte of the input ECX; EAX[31:29] is zero, which software takes
for a symmetric and homogeneous level, only if AsymmetricTopology and HeterogeneousCores are 0 and, at LevelType 1,
EfficiencyRankingAvailable is 0, and at LevelType 1 exactly then; software finds the topology ID of the level by
shifting the Extended APIC ID right by MaskWidth, the APIC ID mask below the level being 2^MaskWidth - 1 and the mask
above it the other bits. The two masks are inferences of R332 (log entry 41); that bit 29 is a draw at another
LevelType is the spec's decision D30 (log entry 35). -/
def Obligations.Function8000_0026Level : Prop :=
  ∀ (s : State) (l : Record.Level), s.mayExecute →
    s.readReg .eax = 0x80000026 →
    0x80000026 ≤ s.cfg.LFuncExt →
    s.cfg.Fn8000_0026_x[(s.readReg .ecx).toNat]? = some l →
    ∃ t, exec .cpuid s = .next t ∧
      bitsOf (t.readReg .eax) 31 31 = l.EAX.AsymmetricTopology ∧
      bitsOf (t.readReg .eax) 30 30 = l.EAX.HeterogeneousCores ∧
      (l.ECX.LevelType = 1 → bitsOf (t.readReg .eax) 29 29 = l.EAX.EfficiencyRankingAvailable) ∧
      bitsOf (t.readReg .eax) 4 0 = l.EAX.MaskWidth ∧
      (l.ECX.LevelType = 1 → bitsOf (t.readReg .ebx) 31 28 = l.EBX.CoreType) ∧
      (l.ECX.LevelType = 1 → bitsOf (t.readReg .ebx) 27 24 = l.EBX.NativeModelID) ∧
      (l.ECX.LevelType = 1 → bitsOf (t.readReg .ebx) 23 16 = l.EBX.PwrEfficiencyRanking) ∧
      bitsOf (t.readReg .ebx) 15 0 = l.EBX.NumLogProc ∧
      bitsOf (t.readReg .ecx) 15 8 = l.ECX.LevelType ∧
      bitsOf (t.readReg .ecx) 7 0 = inputEcx (s.readReg .ecx) ∧
      topologyId s.cfg l = s.cfg.Fn8000_0026_EDX.ExtendedApicId >>> (bitsOf (t.readReg .eax) 4 0).toNat ∧
      (levelUniform (t.readReg .eax) = true → l.EAX.AsymmetricTopology = 0 ∧ l.EAX.HeterogeneousCores = 0) ∧
      (l.ECX.LevelType = 1 → (levelUniform (t.readReg .eax) = true ↔ l.EAX.AsymmetricTopology = 0 ∧
        l.EAX.HeterogeneousCores = 0 ∧ l.EAX.EfficiencyRankingAvailable = 0)) ∧
      (apicIdMaskBelow l).toNat = 2 ^ (bitsOf (t.readReg .eax) 4 0).toNat - 1 ∧
      (apicIdMaskAbove l).toNat + (apicIdMaskBelow l).toNat = 0xFFFFFFFF

/-- With 8000_0026h in EAX and 8000_0026h at most LFuncExt: at every enumerated level CPUID returns the one
ExtendedApicId of the logical processor in EDX; when ECX is not below NumTopoLevels it returns LevelType 0 in
ECX[15:8] and the low byte of the input ECX in ECX[7:0]. That the identifier is one for all levels is the spec's
inference; the end is its decision D23 (log entry 27). -/
def Obligations.Function8000_0026Identifier : Prop :=
  ∀ s : State, s.mayExecute → s.readReg .eax = 0x80000026 → 0x80000026 ≤ s.cfg.LFuncExt →
    ∃ t, exec .cpuid s = .next t ∧
      ((s.readReg .ecx).toNat < s.cfg.NumTopoLevels → t.readReg .edx = s.cfg.Fn8000_0026_EDX.ExtendedApicId) ∧
      (s.cfg.NumTopoLevels ≤ (s.readReg .ecx).toNat →
        bitsOf (t.readReg .ecx) 15 8 = 0 ∧ bitsOf (t.readReg .ecx) 7 0 = inputEcx (s.readReg .ecx))

/-- When the two bytes of the fetch decode to a well-formed instruction i, step is exec of i on the same state: the
step adds nothing of its own, and i itself moves pc. The two bytes stand at pc and pc + 1 modulo 2^W. That the fetch
wraps is log entry 9. -/
def Obligations.StepRunsDecodedInstruction : Prop :=
  ∀ (s : State) (b0 b1 : Byte) (i : Instr) (rest : List Byte),
    s.mem.read (s.fetchAddress 0) = some b0 → s.mem.read (s.fetchAddress 1) = some b1 →
    decode [b0, b1] = .ok (i, rest) → i.wellFormed = true → s.pcFits = true →
    step s = exec i s ∧ s.fetchAddress 0 = s.pc.toNat ∧
      s.fetchAddress 1 = (s.pc.toNat + 1) % 2 ^ s.ipWidth.bits

/-- A step whose fetch finds no text refuses with the address, one whose first byte is a prefix refuses the prefixed
form, and one whose bytes are neither refuses them as no CPUID; the state is in no case changed. The refusals are the
spec's decisions D4 and D25 (log entries 8 and 10). -/
def Obligations.StepRefusesByName : Prop :=
  ∀ s : State,
    (s.mem.read (s.fetchAddress 0) = none → step s = .refused (.textAbsent (s.fetchAddress 0))) ∧
      (∀ b0, s.mem.read (s.fetchAddress 0) = some b0 → s.mem.read (s.fetchAddress 1) = none →
        step s = .refused (.textAbsent (s.fetchAddress 1))) ∧
      (∀ b0 b1, s.mem.read (s.fetchAddress 0) = some b0 → s.mem.read (s.fetchAddress 1) = some b1 →
        isPrefixByte b0 = true → step s = .refused (.prefixedForm b0)) ∧
      ∀ b0 b1, s.mem.read (s.fetchAddress 0) = some b0 → s.mem.read (s.fetchAddress 1) = some b1 →
        isPrefixByte b0 = false → ¬(b0 = 0x0F ∧ b1 = 0xA2) → step s = .refused (.notCpuid b0 b1)

/-- The bytes 0Fh A2h in address order are CPUID, two bytes long; the forms 66 0F A2, F3 0F A2 and 48 0F A2 are
refused as prefixed. The encoding is general knowledge in the spec (log entry 28), the refusal its decision D25 (log
entry 10). -/
def Obligations.CpuidWordDecodes : Prop :=
  decode [0x0F, 0xA2] = .ok (.cpuid, []) ∧ Instr.cpuid.length = 2 ∧
    decode [0x66, 0x0F, 0xA2] = .error (.prefixedForm 0x66) ∧
    decode [0xF3, 0x0F, 0xA2] = .error (.prefixedForm 0xF3) ∧
    decode [0x48, 0x0F, 0xA2] = .error (.prefixedForm 0x48) ∧ decodeTableWord 16 0x0FA2 = some .cpuid

/-- Bytes decode to an instruction with some bytes left exactly when they are the encoding of that instruction
followed by those bytes. That CPUID is the two bytes 0F A2 is general knowledge in the spec (log entry 28), that no
prefixed form decodes its decision D25 (log entry 10). -/
def Obligations.DecodeEncodeAgree : Prop :=
  ∀ (bytes : List Byte) (i : Instr) (rest : List Byte), decode bytes = .ok (i, rest) ↔ bytes = encode i ++ rest

/-- From every state whose memory is canonical, whose record is a configuration of this hardware, whose env is legal
beside it and whose pc fits W bits, a step that completes gives such a state. -/
def Obligations.StepKeepsInvariant : Prop :=
  ∀ s t : State, s.Inv → step s = .next t → t.Inv

/-- The state right after reset has canonical memory, a well-formed configuration, a legal env and a pc of W bits,
whatever the free record is. The reset values are the model's (log entries 2 to 8). -/
def Obligations.ResetMeetsInvariant : Prop :=
  State.reset.Inv

/-- With the bytes of CPUID placed at pc, the first step after reset completes and returns function 0: LFuncStd and
the vendor constants; the local APIC ID register holds LocalApicId. That EAX is 0 and CPL is 0 after reset is the
model's choice (log entries 4 and 6). -/
def Obligations.FirstCpuidAfterReset : Prop :=
  State.reset.apicIdRegister = State.reset.cfg.Fn0000_0001_EBX.LocalApicId ∧
    ∃ t, step (State.reset.withFetchWord 16 0x0FA2) = .next t ∧
      t.holds ⟨State.reset.cfg.LFuncStd, 0x68747541, 0x444D4163, 0x69746E65⟩

/-- For every configuration, function number and subfunction, exactly one of the 65 rows of the function map takes the
pair. That the leaf rows are selected by EAX and ECX, as rows of one map, is the form the model gives them (log entry
39). -/
def Obligations.FunctionMapPartitions : Prop :=
  ∀ (cfg : Cfg) (fn sub : Word), (functionMap.filter (MapRow.selects cfg fn sub)).length = 1

/-- For every configuration, env, function number and subfunction, the entry Leaf returns in its order of tests is the
entry of the one row of the function map that takes the pair, or four draws when the function is out of range or the
row's gate closed. The four draws are the spec's decisions D6 and D24 (log entry 18), and the map is the form the
model gives the leaf rows (log entry 39). -/
def Obligations.LeafFollowsFunctionMap : Prop :=
  ∀ (cfg : Cfg) (env : Env) (fn sub : Word), leafEntry cfg env fn sub = entryByMap cfg env fn sub

/-- In a configuration of this hardware with function 8000_001Dh in range, its gate open and fewer than 2^32 caches,
the loop that executes CPUID with ECX from 0 until EAX[4:0] is 0 stops after NumCaches + 1 executions, having found
NumCaches caches. It rests on the spec's decision D23 (log entry 27) and on the constraint that no enumerated cache
has the Null type, an inference of R281 (log entry 2). -/
def Obligations.CacheEnumerationFindsAllCaches : Prop :=
  ∀ s : State, s.mayExecute → s.cfg.wellFormed = true → s.cfg.Fn8000_0001_ECX.TopologyExtensions = 1 →
    0x8000001D ≤ s.cfg.LFuncExt → s.cfg.NumCaches < 2 ^ 32 →
    ∃ l, enumerateFrom 0x8000001D noMoreCaches 0 (s.cfg.NumCaches + 1) s = some l ∧ l.length = s.cfg.NumCaches

/-- In a configuration of this hardware with function 8000_0026h in range and fewer than 2^32 levels, the loop that
executes CPUID with ECX from 0 until ECX[15:8] is 0 stops after NumTopoLevels + 1 executions, having found
NumTopoLevels levels; with function Bh in range, its loop, which stops at EAX = 0, stops after at most FnB_Levels + 1
executions, having found at most FnB_Levels levels. It rests on the spec's decisions D8 and D23 (log entry 27) and on
the constraint that no enumerated level of 8000_0026h has LevelType 0, an inference of R331 (log entry 2). -/
def Obligations.LevelEnumerationsStop : Prop :=
  ∀ s : State, s.mayExecute → s.cfg.wellFormed = true →
    (0x80000026 ≤ s.cfg.LFuncExt → s.cfg.NumTopoLevels < 2 ^ 32 →
      ∃ l, enumerateFrom 0x80000026 noMoreLevels 0 (s.cfg.NumTopoLevels + 1) s = some l ∧
        l.length = s.cfg.NumTopoLevels) ∧
      (0x0000000B ≤ s.cfg.LFuncStd →
        ∃ l, enumerateFrom 0x0000000B noMoreLevelsOfFnB 0 (s.cfg.FnB_Levels.val + 1) s = some l ∧
          l.length ≤ s.cfg.FnB_Levels.val)

/-- Storing a 32-bit word puts its bits 7:0 at the lowest address and the next bytes above it, addresses modulo 2^64;
reading the word gives it back; every other byte reads as before. The byte order is the spec's decision D20 (log entry
30). -/
def Obligations.MemoryStoresWords : Prop :=
  ∀ (m : Memory) (a : Quadword) (v : Word),
    (Memory.write32 m a v).read32 a = .ok v ∧
      (∀ k, k < 4 → (Memory.write32 m a v).read (a + BitVec.ofNat 64 k).toNat = some (v.extractLsb' (8 * k) 8)) ∧
      ∀ x, (∀ k, k < 4 → x ≠ (a + BitVec.ofNat 64 k).toNat) → (Memory.write32 m a v).read x = m.read x

/-- In a configuration of this hardware with NC below FFh, the legacy method gives NC + 1 logical processors per
package; in every such configuration the extended method gives MNLP, NC + 1 when ApicIdSize is 0 and 2^ApicIdSize
otherwise, and NC + 1 is at most MNLP. That last is a constraint on the configuration, an inference of R342 (log entry
2); NC = FFh is the spec's decision D29 (log entry 31). -/
def Obligations.PackageCounts : Prop :=
  ∀ cfg : Cfg, cfg.wellFormed = true →
    (cfg.Fn8000_0008_ECX.NC ≠ 0xFF → legacyLogicalProcessors cfg = some (logicalProcessors cfg)) ∧
      mnlp cfg = (if cfg.Fn8000_0008_ECX.ApicIdSize = 0 then cfg.Fn8000_0008_ECX.NC.toNat + 1
        else 2 ^ cfg.Fn8000_0008_ECX.ApicIdSize.toNat) ∧
      cfg.Fn8000_0008_ECX.NC.toNat + 1 ≤ mnlp cfg

/-- With 8000_0006h or 8000_0019h in EAX and that number at most LFuncExt, an L2 TLB size field that CPUID returns
stands for 32 times its value of entries where the reader takes it for one of the fields that L2TlbSizeX32 scales and
that bit is 1, and for its value otherwise; a scaled field of 8000_0006h EAX gives 16 times its value of entries for
4-MB pages, an unscaled one half its value where that is even. All of it holds whatever the associativity field is;
that a disabled TLB has a count too is the model's choice (log entry 44). The set of scaled fields is open in the spec
and an argument here; that the half for 4-MB pages is taken after the scaling is an inference of the model (log entry
41). -/
def Obligations.L2TlbEntryCounts : Prop :=
  ∀ s : State, s.mayExecute →
    (s.readReg .eax = 0x80000006 → 0x80000006 ≤ s.cfg.LFuncExt →
      ∃ t, exec .cpuid s = .next t ∧
        (∀ affected, l2TlbEntries s.cfg affected s.cfg.Fn8000_0006_EAX.L2DTlb2and4MSize =
          if affected = true ∧ s.cfg.Fn8000_0021_EAX.L2TlbSizeX32 = 1 then
            32 * (bitsOf (t.readReg .eax) 27 16).toNat
          else (bitsOf (t.readReg .eax) 27 16).toNat) ∧
        (s.cfg.Fn8000_0021_EAX.L2TlbSizeX32 = 1 → l2EntriesFor4M s.cfg true s.cfg.Fn8000_0006_EAX.L2DTlb2and4MSize =
          some (16 * (bitsOf (t.readReg .eax) 27 16).toNat)) ∧
        (∀ n affected, affected = false ∨ s.cfg.Fn8000_0021_EAX.L2TlbSizeX32 = 0 →
          (bitsOf (t.readReg .eax) 27 16).toNat = 2 * n →
          l2EntriesFor4M s.cfg affected s.cfg.Fn8000_0006_EAX.L2DTlb2and4MSize = some n) ∧
        (∀ affected, l2TlbEntries s.cfg affected s.cfg.Fn8000_0006_EAX.L2ITlb2and4MSize =
          if affected = true ∧ s.cfg.Fn8000_0021_EAX.L2TlbSizeX32 = 1 then
            32 * (bitsOf (t.readReg .eax) 11 0).toNat
          else (bitsOf (t.readReg .eax) 11 0).toNat) ∧
        (s.cfg.Fn8000_0021_EAX.L2TlbSizeX32 = 1 → l2EntriesFor4M s.cfg true s.cfg.Fn8000_0006_EAX.L2ITlb2and4MSize =
          some (16 * (bitsOf (t.readReg .eax) 11 0).toNat)) ∧
        (∀ n affected, affected = false ∨ s.cfg.Fn8000_0021_EAX.L2TlbSizeX32 = 0 →
          (bitsOf (t.readReg .eax) 11 0).toNat = 2 * n →
          l2EntriesFor4M s.cfg affected s.cfg.Fn8000_0006_EAX.L2ITlb2and4MSize = some n) ∧
        (∀ affected, l2TlbEntries s.cfg affected s.cfg.Fn8000_0006_EBX.L2DTlb4KSize =
          if affected = true ∧ s.cfg.Fn8000_0021_EAX.L2TlbSizeX32 = 1 then
            32 * (bitsOf (t.readReg .ebx) 27 16).toNat
          else (bitsOf (t.readReg .ebx) 27 16).toNat) ∧
        (∀ affected, l2TlbEntries s.cfg affected s.cfg.Fn8000_0006_EBX.L2ITlb4KSize =
          if affected = true ∧ s.cfg.Fn8000_0021_EAX.L2TlbSizeX32 = 1 then
            32 * (bitsOf (t.readReg .ebx) 11 0).toNat
          else (bitsOf (t.readReg .ebx) 11 0).toNat)) ∧
    (s.readReg .eax = 0x80000019 → 0x80000019 ≤ s.cfg.LFuncExt →
      ∃ t, exec .cpuid s = .next t ∧
        (∀ affected, l2TlbEntries s.cfg affected s.cfg.Fn8000_0019_EBX.L2DTlb1GSize =
          if affected = true ∧ s.cfg.Fn8000_0021_EAX.L2TlbSizeX32 = 1 then
            32 * (bitsOf (t.readReg .ebx) 27 16).toNat
          else (bitsOf (t.readReg .ebx) 27 16).toNat) ∧
        (∀ affected, l2TlbEntries s.cfg affected s.cfg.Fn8000_0019_EBX.L2ITlb1GSize =
          if affected = true ∧ s.cfg.Fn8000_0021_EAX.L2TlbSizeX32 = 1 then
            32 * (bitsOf (t.readReg .ebx) 11 0).toNat
          else (bitsOf (t.readReg .ebx) 11 0).toNat))

end
end

