-- ==== Sys2Proof/Laws/Memory.lean ====
section
/-! SUPPORT. The laws of memory: what a read gives after a write, and that every operation keeps the canonical form. -/

namespace Sys2Proof.Machine

/-! ## Reads after writes -/

/-- The byte written reads back. -/
@[simp] theorem Memory.read_write_same (m : Memory) (a : Nat) (b : Byte) : (Memory.write m a b).read a = some b := by
  induction m with
  | nil => simp [Memory.write, Memory.read]
  | cons c m ih =>
    simp only [Memory.write]
    split
    · simp [Memory.read]
    · split
      · simp [Memory.read]
      · rename_i h
        simp [Memory.read, h, ih]

/-- Every other byte reads as before. -/
theorem Memory.read_write_other (m : Memory) {a a' : Nat} (b : Byte) (h : a' ≠ a) :
    (Memory.write m a b).read a' = Memory.read m a' := by
  have h' : a ≠ a' := fun e => h e.symm
  induction m with
  | nil => simp [Memory.write, Memory.read, h']
  | cons c m ih =>
    simp only [Memory.write]
    split
    · simp [Memory.read, h']
    · split
      · rename_i hc
        have : c.1 ≠ a' := hc ▸ h'
        simp [Memory.read, h', this]
      · simp only [Memory.read, ih]

/-- A read after a write. -/
theorem Memory.read_write (m : Memory) (a a' : Nat) (b : Byte) :
    (Memory.write m a b).read a' = if a' = a then some b else Memory.read m a' := by
  by_cases h : a' = a
  · simp [h]
  · simp [h, Memory.read_write_other m b h]

/-! ## The canonical form -/

/-- The canonical form, cell by cell. -/
theorem Memory.wf_cons (c : Host.Cell) (m : Memory) :
    Memory.wf (c :: m) = true ↔ (∀ d ∈ m, c.1 < d.1) ∧ c.1 < 2 ^ 64 ∧ Memory.wf m = true := by
  simp only [Memory.wf, List.map_cons, List.pairwise_cons, List.all_cons, Bool.and_eq_true, decide_eq_true_eq,
    List.mem_map, forall_exists_index, and_imp, forall_apply_eq_imp_iff₂]
  tauto

/-- A cell of a written memory is the written one or an old one. -/
theorem Memory.mem_write {m : Memory} {a : Nat} {b : Byte} {d : Host.Cell} (h : d ∈ Memory.write m a b) :
    d = (a, b) ∨ d ∈ m := by
  induction m with
  | nil => simpa [Memory.write] using h
  | cons c m ih =>
    simp only [Memory.write] at h
    split at h
    · simpa using h
    · split at h
      · rcases List.mem_cons.mp h with h | h
        · exact .inl h
        · exact .inr (List.mem_cons_of_mem _ h)
      · rcases List.mem_cons.mp h with h | h
        · exact .inr (h ▸ List.mem_cons_self ..)
        · rcases ih h with h | h
          · exact .inl h
          · exact .inr (List.mem_cons_of_mem _ h)

/-- Writing a byte below 2^64 keeps the canonical form. -/
theorem Memory.wf_write {m : Memory} (h : Memory.wf m = true) {a : Nat} (ha : a < 2 ^ 64) (b : Byte) :
    Memory.wf (Memory.write m a b) = true := by
  induction m with
  | nil => simpa [Memory.write, Memory.wf] using ha
  | cons c m ih =>
    obtain ⟨hlt, hc, hm⟩ := (Memory.wf_cons c m).mp h
    simp only [Memory.write]
    split
    · rename_i hac
      refine (Memory.wf_cons _ _).mpr ⟨fun d hd => ?_, ha, h⟩
      rcases List.mem_cons.mp hd with rfl | hd
      · exact hac
      · exact lt_trans hac (hlt d hd)
    · split
      · rename_i hca
        exact (Memory.wf_cons _ _).mpr ⟨fun d hd => hca ▸ hlt d hd, ha, hm⟩
      · rename_i hac hca
        refine (Memory.wf_cons _ _).mpr ⟨fun d hd => ?_, hc, ih hm⟩
        rcases Memory.mem_write hd with rfl | hd
        · show c.1 < a
          omega
        · exact hlt d hd

/-- Writing bytes keeps the canonical form. -/
theorem Memory.wf_writeBytes {m : Memory} (h : Memory.wf m = true) (a : Quadword) (bs : List Byte) :
    Memory.wf (Memory.writeBytes m a bs) = true := by
  induction bs generalizing m a with
  | nil => exact h
  | cons b bs ih => exact ih (Memory.wf_write h a.isLt b) (a + 1)

/-- Storing a word keeps the canonical form. -/
theorem Memory.wf_write32 {m : Memory} (h : Memory.wf m = true) (a : Quadword) (v : Word) :
    Memory.wf (Memory.write32 m a v) = true := Memory.wf_writeBytes h a _

/-- Placing program text keeps the canonical form. -/
theorem wf_placeText {s : State} (h : s.mem.wf = true) (k : Nat) (bs : List Byte) : (s.placeText k bs).mem.wf = true := by
  induction bs generalizing s k with
  | nil => exact h
  | cons b bs ih => exact ih (Memory.wf_write h (BitVec.isLt _) b) (k + 1)

/-- The memory of the machine right after reset is canonical. -/
theorem wf_reset : State.reset.mem.wf = true := rfl

/-! ## Fetch -/

/-- The fetch of two bytes: what it answers, said once. -/
theorem fetch_eq (s : State) :
    s.fetch =
      match s.mem.read (s.fetchAddress 0), s.mem.read (s.fetchAddress 1) with
      | some b0, some b1 => .ok [b0, b1]
      | none, _ => .error (s.fetchAddress 0)
      | some _, none => .error (s.fetchAddress 1) := by
  simp only [State.fetch, maxInstrBytes, State.fetchFrom]
  cases s.mem.read (s.fetchAddress 0) with
  | none => rfl
  | some b0 => cases s.mem.read (s.fetchAddress (0 + 1)) <;> rfl

/-- Where the two bytes of an instruction lie, they are never the same address (10_state.md R22: W is at least 16). -/
theorem fetchAddress_zero_ne_one (s : State) : s.fetchAddress 0 ≠ s.fetchAddress 1 := by
  simp only [State.fetchAddress, IpWidth.wrap, BitVec.toNat_setWidth, BitVec.toNat_add, BitVec.toNat_ofNat]
  cases s.ipWidth <;> simp only [IpWidth.bits] <;> omega

end Sys2Proof.Machine
end

