-- ==== Sys2Proof/Laws/State.lean ====
section
/-! SUPPORT. One lemma per field per update of the state, and what each read of a register gives after each write. -/

namespace Sys2Proof.Machine

variable (s : State) (v : Word) (n : Nat)

/-! ## writeReg -/

@[simp] theorem writeReg_pc (r : Reg) : (s.writeReg r v).pc = s.pc := by cases r <;> rfl
@[simp] theorem writeReg_ipWidth (r : Reg) : (s.writeReg r v).ipWidth = s.ipWidth := by cases r <;> rfl
@[simp] theorem writeReg_eflags (r : Reg) : (s.writeReg r v).eflags = s.eflags := by cases r <;> rfl
@[simp] theorem writeReg_cfg (r : Reg) : (s.writeReg r v).cfg = s.cfg := by cases r <;> rfl
@[simp] theorem writeReg_upperHalfPolicy (r : Reg) : (s.writeReg r v).upperHalfPolicy = s.upperHalfPolicy := by
  cases r <;> rfl
@[simp] theorem writeReg_env (r : Reg) : (s.writeReg r v).env = s.env := by cases r <;> rfl
@[simp] theorem writeReg_apicIdRegister (r : Reg) : (s.writeReg r v).apicIdRegister = s.apicIdRegister := by
  cases r <;> rfl
@[simp] theorem writeReg_mem (r : Reg) : (s.writeReg r v).mem = s.mem := by cases r <;> rfl
@[simp] theorem writeReg_drawCount (r : Reg) : (s.writeReg r v).drawCount = s.drawCount := by cases r <;> rfl

@[simp] theorem writeReg_eax_rax : (s.writeReg .eax v).rax = s.upperHalf .eax ++ v := rfl
@[simp] theorem writeReg_eax_rbx : (s.writeReg .eax v).rbx = s.rbx := rfl
@[simp] theorem writeReg_eax_rcx : (s.writeReg .eax v).rcx = s.rcx := rfl
@[simp] theorem writeReg_eax_rdx : (s.writeReg .eax v).rdx = s.rdx := rfl
@[simp] theorem writeReg_ebx_rax : (s.writeReg .ebx v).rax = s.rax := rfl
@[simp] theorem writeReg_ebx_rbx : (s.writeReg .ebx v).rbx = s.upperHalf .ebx ++ v := rfl
@[simp] theorem writeReg_ebx_rcx : (s.writeReg .ebx v).rcx = s.rcx := rfl
@[simp] theorem writeReg_ebx_rdx : (s.writeReg .ebx v).rdx = s.rdx := rfl
@[simp] theorem writeReg_ecx_rax : (s.writeReg .ecx v).rax = s.rax := rfl
@[simp] theorem writeReg_ecx_rbx : (s.writeReg .ecx v).rbx = s.rbx := rfl
@[simp] theorem writeReg_ecx_rcx : (s.writeReg .ecx v).rcx = s.upperHalf .ecx ++ v := rfl
@[simp] theorem writeReg_ecx_rdx : (s.writeReg .ecx v).rdx = s.rdx := rfl
@[simp] theorem writeReg_edx_rax : (s.writeReg .edx v).rax = s.rax := rfl
@[simp] theorem writeReg_edx_rbx : (s.writeReg .edx v).rbx = s.rbx := rfl
@[simp] theorem writeReg_edx_rcx : (s.writeReg .edx v).rcx = s.rcx := rfl
@[simp] theorem writeReg_edx_rdx : (s.writeReg .edx v).rdx = s.upperHalf .edx ++ v := rfl

@[simp] theorem writeReg_upperHalf (r r' : Reg) : (s.writeReg r v).upperHalf r' = s.upperHalf r' := by
  cases r <;> cases r' <;> rfl
@[simp] theorem writeReg_draws4 (r : Reg) : (s.writeReg r v).draws4 = s.draws4 := by cases r <;> rfl
@[simp] theorem writeReg_drawWord (r : Reg) : (s.writeReg r v).drawWord n = s.drawWord n := by cases r <;> rfl

/-- The low half of a containing register written is the value written. -/
theorem setWidth_append_word (u w : Word) : (u ++ w : Quadword).setWidth 32 = w := by
  apply BitVec.eq_of_getLsbD_eq
  intro i h
  have e := BitVec.getLsbD_append (x := u) (y := w) (i := i)
  simp only [h, if_true] at e
  rw [BitVec.getLsbD_setWidth]
  simp only [h, decide_true, Bool.true_and]
  exact e

/-- The upper half of a containing register written is what the policy gives. -/
theorem extract_append_word (u w : Word) : (u ++ w : Quadword).extractLsb' 32 32 = u := by
  apply BitVec.eq_of_getLsbD_eq
  intro i h
  have e := BitVec.getLsbD_append (x := u) (y := w) (i := 32 + i)
  simp only [show ¬ (32 + i < 32) by omega, if_false, Nat.add_sub_cancel_left] at e
  rw [BitVec.getLsbD_extractLsb']
  simp only [h, decide_true, Bool.true_and]
  exact e

/-- A register read after a write: the value written where the register is the one written, else as before. -/
theorem readReg_writeReg (r r' : Reg) : (s.writeReg r v).readReg r' = if r' = r then v else s.readReg r' := by
  cases r <;> cases r' <;> simp [State.readReg, State.container, setWidth_append_word]

@[simp] theorem readReg_writeReg_same (r : Reg) : (s.writeReg r v).readReg r = v := by simp [readReg_writeReg]

theorem readReg_writeReg_other {r r' : Reg} (h : r' ≠ r) : (s.writeReg r v).readReg r' = s.readReg r' := by
  simp [readReg_writeReg, h]

/-! ## writeResults -/

variable (w : Regs4)

@[simp] theorem writeResults_rax : (s.writeResults w).rax = s.upperHalf .eax ++ w.eax := rfl
@[simp] theorem writeResults_rbx : (s.writeResults w).rbx = s.upperHalf .ebx ++ w.ebx := rfl
@[simp] theorem writeResults_rcx : (s.writeResults w).rcx = s.upperHalf .ecx ++ w.ecx := rfl
@[simp] theorem writeResults_rdx : (s.writeResults w).rdx = s.upperHalf .edx ++ w.edx := rfl
@[simp] theorem writeResults_pc : (s.writeResults w).pc = s.pc := rfl
@[simp] theorem writeResults_ipWidth : (s.writeResults w).ipWidth = s.ipWidth := rfl
@[simp] theorem writeResults_eflags : (s.writeResults w).eflags = s.eflags := rfl
@[simp] theorem writeResults_cfg : (s.writeResults w).cfg = s.cfg := rfl
@[simp] theorem writeResults_upperHalfPolicy : (s.writeResults w).upperHalfPolicy = s.upperHalfPolicy := rfl
@[simp] theorem writeResults_env : (s.writeResults w).env = s.env := rfl
@[simp] theorem writeResults_apicIdRegister : (s.writeResults w).apicIdRegister = s.apicIdRegister := rfl
@[simp] theorem writeResults_mem : (s.writeResults w).mem = s.mem := rfl
@[simp] theorem writeResults_drawCount : (s.writeResults w).drawCount = s.drawCount := rfl

/-! ## advancePc -/

@[simp] theorem advancePc_rax : (s.advancePc n).rax = s.rax := rfl
@[simp] theorem advancePc_rbx : (s.advancePc n).rbx = s.rbx := rfl
@[simp] theorem advancePc_rcx : (s.advancePc n).rcx = s.rcx := rfl
@[simp] theorem advancePc_rdx : (s.advancePc n).rdx = s.rdx := rfl
@[simp] theorem advancePc_pc : (s.advancePc n).pc = s.ipWidth.wrap (s.pc + BitVec.ofNat 64 n) := rfl
@[simp] theorem advancePc_ipWidth : (s.advancePc n).ipWidth = s.ipWidth := rfl
@[simp] theorem advancePc_eflags : (s.advancePc n).eflags = s.eflags := rfl
@[simp] theorem advancePc_cfg : (s.advancePc n).cfg = s.cfg := rfl
@[simp] theorem advancePc_upperHalfPolicy : (s.advancePc n).upperHalfPolicy = s.upperHalfPolicy := rfl
@[simp] theorem advancePc_env : (s.advancePc n).env = s.env := rfl
@[simp] theorem advancePc_apicIdRegister : (s.advancePc n).apicIdRegister = s.apicIdRegister := rfl
@[simp] theorem advancePc_mem : (s.advancePc n).mem = s.mem := rfl
@[simp] theorem advancePc_drawCount : (s.advancePc n).drawCount = s.drawCount := rfl

/-- A wrapped program counter fits its width (10_state.md R22). -/
theorem wrap_toNat_lt (k : IpWidth) (a : Quadword) : (k.wrap a).toNat < 2 ^ k.bits := by
  have : (a.setWidth k.bits).toNat < 2 ^ k.bits := (a.setWidth k.bits).isLt
  simp only [IpWidth.wrap, BitVec.toNat_setWidth] at *
  exact lt_of_le_of_lt (Nat.mod_le _ _) this

/-- Wrapping a number that fits changes nothing. -/
theorem wrap_of_lt {k : IpWidth} {a : Quadword} (h : a.toNat < 2 ^ k.bits) : k.wrap a = a := by
  apply BitVec.eq_of_toNat_eq
  simp only [IpWidth.wrap, BitVec.toNat_setWidth]
  rw [Nat.mod_eq_of_lt h, Nat.mod_eq_of_lt a.isLt]

/-! ## nextDraws -/

@[simp] theorem nextDraws_rax : s.nextDraws.rax = s.rax := rfl
@[simp] theorem nextDraws_rbx : s.nextDraws.rbx = s.rbx := rfl
@[simp] theorem nextDraws_rcx : s.nextDraws.rcx = s.rcx := rfl
@[simp] theorem nextDraws_rdx : s.nextDraws.rdx = s.rdx := rfl
@[simp] theorem nextDraws_pc : s.nextDraws.pc = s.pc := rfl
@[simp] theorem nextDraws_ipWidth : s.nextDraws.ipWidth = s.ipWidth := rfl
@[simp] theorem nextDraws_eflags : s.nextDraws.eflags = s.eflags := rfl
@[simp] theorem nextDraws_cfg : s.nextDraws.cfg = s.cfg := rfl
@[simp] theorem nextDraws_upperHalfPolicy : s.nextDraws.upperHalfPolicy = s.upperHalfPolicy := rfl
@[simp] theorem nextDraws_env : s.nextDraws.env = s.env := rfl
@[simp] theorem nextDraws_apicIdRegister : s.nextDraws.apicIdRegister = s.apicIdRegister := rfl
@[simp] theorem nextDraws_mem : s.nextDraws.mem = s.mem := rfl
@[simp] theorem nextDraws_drawCount : s.nextDraws.drawCount = s.drawCount + 1 := rfl

/-! ## Flags -/

/-- CPUID writes no flag (10_state.md R23). -/
@[simp] theorem flagsAfterCpuid_eq (f : BitVec 32) : flagsAfterCpuid f = f := rfl

end Sys2Proof.Machine
end

