-- ==== Sys2Proof/Laws/Cpuid.lean ====
section
/-! SUPPORT. What an execution of CPUID and a step can do, said once. -/

namespace Sys2Proof.Machine

/-- The state after an execution of CPUID that completes. -/
def State.afterCpuid (s : State) : State :=
  (({ s.writeResults s.cpuidResult with eflags := flagsAfterCpuid s.eflags }.advancePc Instr.cpuid.length).nextDraws)

variable (s : State)

@[simp] theorem afterCpuid_rax : s.afterCpuid.rax = s.upperHalf .eax ++ s.cpuidResult.eax := rfl
@[simp] theorem afterCpuid_rbx : s.afterCpuid.rbx = s.upperHalf .ebx ++ s.cpuidResult.ebx := rfl
@[simp] theorem afterCpuid_rcx : s.afterCpuid.rcx = s.upperHalf .ecx ++ s.cpuidResult.ecx := rfl
@[simp] theorem afterCpuid_rdx : s.afterCpuid.rdx = s.upperHalf .edx ++ s.cpuidResult.edx := rfl
@[simp] theorem afterCpuid_pc : s.afterCpuid.pc = s.ipWidth.wrap (s.pc + 2) := rfl
@[simp] theorem afterCpuid_ipWidth : s.afterCpuid.ipWidth = s.ipWidth := rfl
@[simp] theorem afterCpuid_eflags : s.afterCpuid.eflags = s.eflags := rfl
@[simp] theorem afterCpuid_cfg : s.afterCpuid.cfg = s.cfg := rfl
@[simp] theorem afterCpuid_upperHalfPolicy : s.afterCpuid.upperHalfPolicy = s.upperHalfPolicy := rfl
@[simp] theorem afterCpuid_env : s.afterCpuid.env = s.env := rfl
@[simp] theorem afterCpuid_apicIdRegister : s.afterCpuid.apicIdRegister = s.apicIdRegister := rfl
@[simp] theorem afterCpuid_mem : s.afterCpuid.mem = s.mem := rfl
@[simp] theorem afterCpuid_drawCount : s.afterCpuid.drawCount = s.drawCount + 1 := rfl

@[simp] theorem afterCpuid_eax : s.afterCpuid.readReg .eax = s.cpuidResult.eax := setWidth_append_word _ _
@[simp] theorem afterCpuid_ebx : s.afterCpuid.readReg .ebx = s.cpuidResult.ebx := setWidth_append_word _ _
@[simp] theorem afterCpuid_ecx : s.afterCpuid.readReg .ecx = s.cpuidResult.ecx := setWidth_append_word _ _
@[simp] theorem afterCpuid_edx : s.afterCpuid.readReg .edx = s.cpuidResult.edx := setWidth_append_word _ _

/-- The two outcomes of CPUID (40_cpuid_instruction.md R70). -/
theorem exec_cpuid_eq :
    exec .cpuid s = if s.cpuidDisabled = true then .fault (.gp 0) else .next s.afterCpuid := rfl

/-- CPUID completes when the facility does not stop it. -/
theorem exec_cpuid_of_enabled (h : s.cpuidDisabled = false) : exec .cpuid s = .next s.afterCpuid := by
  rw [exec_cpuid_eq, h]
  rfl

/-- CPUID faults when the facility stops it. -/
theorem exec_cpuid_of_disabled (h : s.cpuidDisabled = true) : exec .cpuid s = .fault (.gp 0) := by
  rw [exec_cpuid_eq, h]
  rfl

/-- When the facility does not stop CPUID. -/
theorem cpuidDisabled_eq_false : s.cpuidDisabled = false ↔ s.env.CpuidUserDisEnabled = 0 ∨ s.env.CPL = 0 := by
  have h1 : ∀ b : BitVec 1, (b == 1) = false ↔ b = 0 := by decide
  have h2 : ∀ b : BitVec 2, decide (0 < b) = false ↔ b = 0 := by decide
  rw [State.cpuidDisabled, Bool.and_eq_false_iff, h1, h2]

/-- When it does. -/
theorem cpuidDisabled_eq_true : s.cpuidDisabled = true ↔ s.env.CpuidUserDisEnabled = 1 ∧ 0 < s.env.CPL := by
  rw [State.cpuidDisabled, Bool.and_eq_true, beq_iff_eq, decide_eq_true_eq]

/-- Whatever instruction it is, a completed execution is CPUID's. -/
theorem exec_next {i : Instr} {t : State} (h : exec i s = .next t) : s.cpuidDisabled = false ∧ t = s.afterCpuid := by
  cases i
  rw [exec_cpuid_eq] at h
  split at h
  · cases h
  · rename_i hd
    exact ⟨by simpa using hd, by cases h; rfl⟩

/-- What decodes at the head of two bytes. -/
theorem decode_pair (b0 b1 : Byte) :
    decode [b0, b1] =
      if isPrefixByte b0 = true then .error (.prefixedForm b0)
      else if b0 = 0x0F ∧ b1 = 0xA2 then .ok (.cpuid, []) else .error (.notCpuid b0 b1) := rfl

/-- Everything one step can do: it runs CPUID, or it refuses for want of text or of an instruction. -/
theorem step_cases :
    (s.mem.read (s.fetchAddress 0) = some 0x0F ∧ s.mem.read (s.fetchAddress 1) = some 0xA2 ∧
        step s = exec .cpuid s) ∨
      ∃ r, step s = .refused r := by
  rw [step, fetch_eq]
  cases h0 : s.mem.read (s.fetchAddress 0) with
  | none => exact .inr ⟨_, rfl⟩
  | some b0 =>
    cases h1 : s.mem.read (s.fetchAddress 1) with
    | none => exact .inr ⟨_, rfl⟩
    | some b1 =>
      simp only [decode_pair]
      split
      · exact .inr ⟨_, by rename_i h; split at h <;> simp_all <;> rfl⟩
      · rename_i h
        split at h
        · cases h
        · split at h
          · rename_i hb
            cases h
            exact .inl ⟨by rw [hb.1], by rw [hb.2], rfl⟩
          · cases h

/-- A completed step is an execution of CPUID. -/
theorem step_next {t : State} (h : step s = .next t) : s.cpuidDisabled = false ∧ t = s.afterCpuid := by
  rcases step_cases s with ⟨-, -, he⟩ | ⟨r, hr⟩
  · exact exec_next s (he ▸ h)
  · rw [hr] at h
    cases h

end Sys2Proof.Machine
end

