-- ==== Sys2Proof/Laws/Derived.lean ====
section
/-! SUPPORT. What the arithmetic over returned fields gives: the lemmas a statement about it cites instead of unfolding
it. -/

namespace Sys2Proof.Machine

/-! ## TLB entries (R216, R223, R313) -/

/-- An even number of entries has a half. -/
@[simp] theorem half_two_mul (n : Nat) : half (2 * n) = some n := by simp [half]

/-- A number of entries has a half only if it is even. -/
theorem half_eq_some_iff {m n : Nat} : half m = some n ↔ m = 2 * n := by
  simp only [half]; split <;> simp <;> omega

/-- Where the field is not one that `L2TlbSizeX32` scales, or the bit is 0, it is the number of entries. -/
theorem l2TlbEntries_unscaled {cfg : Cfg} {affected : Bool} (size : BitVec 12)
    (h : affected = false ∨ cfg.Fn8000_0021_EAX.L2TlbSizeX32 = 0) : l2TlbEntries cfg affected size = size.toNat := by
  rcases h with h | h <;> simp [l2TlbEntries, h]

/-- Where the field is one that `L2TlbSizeX32` scales and the bit is 1, the entries are 32 times the field. -/
theorem l2TlbEntries_scaled {cfg : Cfg} (size : BitVec 12) (h : cfg.Fn8000_0021_EAX.L2TlbSizeX32 = 1) :
    l2TlbEntries cfg true size = 32 * size.toNat := by
  simp [l2TlbEntries, h]

/-- The entries for 4-MB pages are half of an even unscaled field. -/
theorem l2EntriesFor4M_unscaled {cfg : Cfg} {affected : Bool} {size : BitVec 12} {n : Nat}
    (h : affected = false ∨ cfg.Fn8000_0021_EAX.L2TlbSizeX32 = 0) (hn : size.toNat = 2 * n) :
    l2EntriesFor4M cfg affected size = some n := by
  rw [l2EntriesFor4M, l2TlbEntries_unscaled size h, hn, half_two_mul]

/-- The entries for 4-MB pages are 16 times a scaled field. -/
theorem l2EntriesFor4M_scaled {cfg : Cfg} (size : BitVec 12) (h : cfg.Fn8000_0021_EAX.L2TlbSizeX32 = 1) :
    l2EntriesFor4M cfg true size = some (16 * size.toNat) := by
  rw [l2EntriesFor4M, l2TlbEntries_scaled size h, half_eq_some_iff]; omega

/-! ## Sharing (R282, R292) -/

/-- The least `k` with `2^k` at least the number of sharers is the shift of `ShareId`. -/
theorem ceilLog2_eq {n k : Nat} (hn : n ≤ 4096) (hk : n ≤ 2 ^ k) (hmin : ∀ j, j < k → 2 ^ j < n) : ceilLog2 n = k := by
  have hk12 : k ≤ 12 := by
    by_contra hlt
    exact absurd (hmin 12 (by omega)) (by omega)
  have hfind : (List.range 13).find? (fun s => decide (n ≤ 2 ^ s)) = some k := by
    rw [List.find?_range_eq_some]
    exact ⟨by simpa using hk, by simp; omega, fun j hj => by simpa using hmin j hj⟩
  rw [ceilLog2, hfind, Option.getD_some]

/-! ## Levels of function 8000_0026h (R332) -/

/-- A slice is zero exactly when the number it reads is. -/
theorem bitsOf_eq_zero_iff (v : Word) (hi lo : Nat) :
    bitsOf v hi lo = 0 ↔ v.toNat / 2 ^ lo % 2 ^ (hi - lo + 1) = 0 := by
  rw [BitVec.toNat_eq, bitsOf, BitVec.extractLsb'_toNat, Nat.shiftRight_eq_div_pow]
  exact Iff.rfl

/-- `EAX[31:29]` is zero exactly when each of its three bits is. -/
theorem levelUniform_iff (eax : Word) :
    levelUniform eax = true ↔ bitsOf eax 31 31 = 0 ∧ bitsOf eax 30 30 = 0 ∧ bitsOf eax 29 29 = 0 := by
  simp only [levelUniform, beq_iff_eq, bitsOf_eq_zero_iff]
  omega

end Sys2Proof.Machine
end

