-- ==== Sys2Proof/Laws/Fields.lean ====
section
/-! SUPPORT. What `Field.put`, `Register.fill` and `Register.definedMask` do, bit by bit and field by field. -/

namespace Sys2Proof.Machine

/-- The field covers bit `i`. -/
def Field.covers (f : Field) (i : Nat) : Bool := decide (f.lo ≤ i ∧ i - f.lo < f.hi - f.lo + 1)

/-- The fields lie within 32 bits and no two cover the same bit. It looks at no value, so it is settled by `rfl` on any
of the field lists of this model. -/
def Register.shapeOk : Register → Bool
  | [] => true
  | f :: fs =>
    decide (f.lo ≤ f.hi ∧ f.hi < 32) && fs.all (fun g => decide (g.hi < f.lo ∨ f.hi < g.lo)) && Register.shapeOk fs

theorem getLsbD_rangeMask (hi lo i : Nat) (h : i < 32) :
    (rangeMask hi lo).getLsbD i = decide (lo ≤ i ∧ i - lo < hi - lo + 1) := by
  simp only [rangeMask, BitVec.getLsbD_shiftLeft, BitVec.getLsbD_setWidth, BitVec.getLsbD_allOnes, h, decide_true,
    Bool.true_and]
  by_cases h1 : i < lo
  · have : ¬ (lo ≤ i) := by omega
    simp [h1, this]
  · have h1' : lo ≤ i := by omega
    by_cases h2 : i - lo < hi - lo + 1
    · simp [h1, h1', h2]; omega
    · simp [h1, h1', h2]

/-- A bit after `Field.put`: the field's where it covers the bit, else as before. -/
theorem Field.getLsbD_put (f : Field) (v : Word) (i : Nat) (h : i < 32) :
    (f.put v).getLsbD i = if f.covers i then f.val.getLsbD (i - f.lo) else v.getLsbD i := by
  simp only [Field.put, BitVec.getLsbD_or, BitVec.getLsbD_and, BitVec.getLsbD_not, getLsbD_rangeMask _ _ _ h,
    BitVec.getLsbD_shiftLeft, BitVec.getLsbD_setWidth, Field.covers, h, decide_true, Bool.true_and]
  by_cases h1 : i < f.lo
  · have : ¬ (f.lo ≤ i) := by omega
    simp [h1, this]
  · have h1' : f.lo ≤ i := by omega
    by_cases h2 : i - f.lo < f.hi - f.lo + 1
    · have : i - f.lo < 32 := by omega
      simp [h1, h1', h2, this]
    · have h3 : f.val.getLsbD (i - f.lo) = false := BitVec.getLsbD_of_ge _ _ (by omega)
      simp [h1, h1', h2, h3]

/-- A bit that no field covers is the draw's (40_cpuid_instruction.md R77). -/
theorem Register.getLsbD_fill_of_uncovered (fs : Register) (draw : Word) (i : Nat) (h : i < 32)
    (hu : ∀ f ∈ fs, f.covers i = false) : (Register.fill fs draw).getLsbD i = draw.getLsbD i := by
  induction fs with
  | nil => rfl
  | cons f fs ih =>
    have hf : f.covers i = false := hu f (by simp)
    show (f.put (Register.fill fs draw)).getLsbD i = _
    rw [Field.getLsbD_put _ _ _ h, hf]
    simpa using ih fun g hg => hu g (by simp [hg])

/-- A bit of `definedMask`: 1 where some field covers it (R77). -/
theorem Register.getLsbD_definedMask (fs : Register) (i : Nat) (h : i < 32) :
    (Register.definedMask fs).getLsbD i = fs.any fun f => f.covers i := by
  induction fs with
  | nil => simp [Register.definedMask]
  | cons f fs ih =>
    show (rangeMask f.hi f.lo ||| Register.definedMask fs).getLsbD i = _
    rw [BitVec.getLsbD_or, ih, getLsbD_rangeMask _ _ _ h]
    simp [Field.covers]

/-- A covered bit does not depend on the draw. -/
theorem Register.getLsbD_fill_of_covered (fs : Register) (d d' : Word) (i : Nat) (h : i < 32)
    (hc : fs.any (fun f => f.covers i) = true) :
    (Register.fill fs d).getLsbD i = (Register.fill fs d').getLsbD i := by
  induction fs with
  | nil => simp at hc
  | cons f fs ih =>
    show (f.put (Register.fill fs d)).getLsbD i = (f.put (Register.fill fs d')).getLsbD i
    rw [Field.getLsbD_put _ _ _ h, Field.getLsbD_put _ _ _ h]
    by_cases hf : f.covers i = true
    · simp [hf]
    · simp only [List.any_cons, Bool.or_eq_true] at hc
      simp [hf, ih (hc.resolve_left hf)]

/-- The bits outside the defined mask are the draw's. -/
theorem Register.fill_and_not_definedMask (fs : Register) (draw : Word) :
    Register.fill fs draw &&& ~~~Register.definedMask fs = draw &&& ~~~Register.definedMask fs := by
  apply BitVec.eq_of_getLsbD_eq
  intro i h
  simp only [BitVec.getLsbD_and, BitVec.getLsbD_not, h, decide_true, Bool.true_and,
    Register.getLsbD_definedMask fs i h]
  by_cases hc : fs.any (fun f => f.covers i) = true
  · simp [hc]
  · rw [Register.getLsbD_fill_of_uncovered fs draw i h]
    simpa using hc

/-- The bits under the defined mask do not depend on the draw. -/
theorem Register.fill_and_definedMask (fs : Register) (d d' : Word) :
    Register.fill fs d &&& Register.definedMask fs = Register.fill fs d' &&& Register.definedMask fs := by
  apply BitVec.eq_of_getLsbD_eq
  intro i h
  simp only [BitVec.getLsbD_and, Register.getLsbD_definedMask fs i h]
  by_cases hc : fs.any (fun f => f.covers i) = true
  · rw [Register.getLsbD_fill_of_covered fs d d' i h hc]
  · simp [hc]

/-- Extracting a field of a register gives the field's value, whatever the draw (00_scope.md R8). -/
theorem Register.extract_fill (fs : Register) (draw : Word) (hs : Register.shapeOk fs = true) (f : Field) (hf : f ∈ fs) :
    (Register.fill fs draw).extractLsb' f.lo (f.hi - f.lo + 1) = f.val := by
  induction fs with
  | nil => simp at hf
  | cons g fs ih =>
    simp only [Register.shapeOk, Bool.and_eq_true, decide_eq_true_eq, List.all_eq_true] at hs
    obtain ⟨⟨⟨hle, hlt⟩, hdis⟩, hrest⟩ := hs
    apply BitVec.eq_of_getLsbD_eq
    intro i hi
    have hext : ((Register.fill (g :: fs) draw).extractLsb' f.lo (f.hi - f.lo + 1)).getLsbD i
        = (g.put (Register.fill fs draw)).getLsbD (f.lo + i) := by
      rw [BitVec.getLsbD_extractLsb']; simp [hi]; rfl
    rw [hext]
    rcases List.mem_cons.mp hf with rfl | hmem
    · rw [Field.getLsbD_put _ _ _ (by omega)]
      have : f.covers (f.lo + i) = true := by
        simp only [Field.covers, decide_eq_true_eq]; omega
      simp [this]
    · have hd : g.hi < f.lo ∨ f.hi < g.lo := by
        have := hdis f hmem; omega
      have hb : f.lo ≤ f.hi ∧ f.hi < 32 := by
        clear ih hext hf hdis
        induction fs with
        | nil => simp at hmem
        | cons k ks ihk =>
          simp only [Register.shapeOk, Bool.and_eq_true, decide_eq_true_eq, List.all_eq_true] at hrest
          rcases List.mem_cons.mp hmem with rfl | hm
          · exact hrest.1.1
          · exact ihk hrest.2 hm
      rw [Field.getLsbD_put _ _ _ (by omega)]
      have : g.covers (f.lo + i) = false := by
        simp only [Field.covers, decide_eq_false_iff_not]; omega
      rw [this]
      have h2 := congrArg (fun v => BitVec.getLsbD v i) (ih hrest hmem)
      simp only [BitVec.getLsbD_extractLsb', hi, decide_true, Bool.true_and] at h2
      simpa using h2

/-- A wholly reserved register is its draw (R76). -/
@[simp] theorem Register.fill_reserved (draw : Word) : Register.fill reserved draw = draw := rfl

/-- A register promised to be zero is zero. -/
@[simp] theorem Register.fill_zeroRegister (draw : Word) : Register.fill zeroRegister draw = 0 := by
  simp [zeroRegister, Register.fill, Field.put, rangeMask]

/-- A register that is one field of 32 bits holds the field. -/
@[simp] theorem Register.fill_whole (v draw : Word) : Register.fill [⟨31, 0, v⟩] draw = v := by
  simp [Register.fill, Field.put, rangeMask]

/-- Four draws (R75). -/
@[simp] theorem Entry.fill_draws4 (d : Regs4) : Entry.draws4.fill d = d := rfl

end Sys2Proof.Machine
end

