-- ==== Sys2Proof/Laws/Leaf.lean ====
section
/-! SUPPORT. What `leafEntry` and `leaf` answer, range by range (40_cpuid_instruction.md R75). -/

namespace Sys2Proof.Machine

variable {cfg : Cfg} {env : Env} {fn sub : Word}

/-- A standard function in range, its gate open. -/
theorem leafEntry_standard (h : fn < 0x40000000) (hr : fn ≤ cfg.LFuncStd) (hg : gateOpen cfg fn = true) :
    leafEntry cfg env fn sub = standardEntry cfg env fn sub := by
  have : ¬ cfg.LFuncStd < fn := BitVec.not_lt.mpr hr
  rw [leafEntry, if_pos h, if_neg this, if_pos hg]

/-- An extended function in range, its gate open. -/
theorem leafEntry_extended (h : 0x80000000 ≤ fn) (hr : fn ≤ cfg.LFuncExt) (hg : gateOpen cfg fn = true) :
    leafEntry cfg env fn sub = extendedEntry cfg env fn sub := by
  have h1 : ¬ fn < 0x40000000 := by bv_omega
  have h2 : ¬ fn ≤ 0x7FFFFFFF := by bv_omega
  have h3 : ¬ cfg.LFuncExt < fn := BitVec.not_lt.mpr hr
  rw [leafEntry, if_neg h1, if_neg h2, if_neg h3, if_pos hg]

/-- A standard function above the largest (R73). -/
theorem leafEntry_above_standard (h : fn < 0x40000000) (hr : cfg.LFuncStd < fn) :
    leafEntry cfg env fn sub = .draws4 := by
  rw [leafEntry, if_pos h, if_pos hr]

/-- A number between the two ranges, the hypervisor's among them (R180). -/
theorem leafEntry_between (h : 0x40000000 ≤ fn) (h' : fn ≤ 0x7FFFFFFF) : leafEntry cfg env fn sub = .draws4 := by
  have h1 : ¬ fn < 0x40000000 := BitVec.not_lt.mpr h
  rw [leafEntry, if_neg h1, if_pos h']

/-- An extended function above the largest (R74). -/
theorem leafEntry_above_extended (h : 0x80000000 ≤ fn) (hr : cfg.LFuncExt < fn) :
    leafEntry cfg env fn sub = .draws4 := by
  have h1 : ¬ fn < 0x40000000 := by bv_omega
  have h2 : ¬ fn ≤ 0x7FFFFFFF := by bv_omega
  rw [leafEntry, if_neg h1, if_neg h2, if_pos hr]

/-- A function whose gate fails (R78). -/
theorem leafEntry_gated (hg : gateOpen cfg fn = false) : leafEntry cfg env fn sub = .draws4 := by
  simp [leafEntry, hg]

/-- The defined bits of every entry are promised whatever the draws, and the other bits are the draws (R77). -/
theorem Entry.fill_spec (e : Entry) (d d' : Regs4) :
    ((e.fill d).eax &&& e.definedMask.eax = (e.fill d').eax &&& e.definedMask.eax ∧
        (e.fill d).ebx &&& e.definedMask.ebx = (e.fill d').ebx &&& e.definedMask.ebx ∧
        (e.fill d).ecx &&& e.definedMask.ecx = (e.fill d').ecx &&& e.definedMask.ecx ∧
        (e.fill d).edx &&& e.definedMask.edx = (e.fill d').edx &&& e.definedMask.edx) ∧
      (e.fill d).eax &&& ~~~e.definedMask.eax = d.eax &&& ~~~e.definedMask.eax ∧
        (e.fill d).ebx &&& ~~~e.definedMask.ebx = d.ebx &&& ~~~e.definedMask.ebx ∧
        (e.fill d).ecx &&& ~~~e.definedMask.ecx = d.ecx &&& ~~~e.definedMask.ecx ∧
        (e.fill d).edx &&& ~~~e.definedMask.edx = d.edx &&& ~~~e.definedMask.edx :=
  ⟨⟨Register.fill_and_definedMask .., Register.fill_and_definedMask .., Register.fill_and_definedMask ..,
      Register.fill_and_definedMask ..⟩,
    Register.fill_and_not_definedMask .., Register.fill_and_not_definedMask .., Register.fill_and_not_definedMask ..,
    Register.fill_and_not_definedMask ..⟩

end Sys2Proof.Machine
end

