-- ==== Sys2Proof/Laws/PerInstr.lean ====
section
/-! SUPPORT. The statements made per instruction: one family, one lemma for each constructor of `Instr`. -/

namespace Sys2Proof.Laws

/-- The length of an instruction is at least one byte, at most the longest the fetch reads, and its encoding holds
no prefix byte (30_encoding.md R50, R58). -/
def EncodedLength.Statement (i : Instr) : Prop :=
  1 ≤ i.length ∧ i.length ≤ maxInstrBytes ∧ (encode i).all (fun b => !isPrefixByte b) = true

/-- `CPUID` (R50: "its length is 2 bytes in every operating mode"). -/
theorem EncodedLength.cpuid : EncodedLength.Statement .cpuid := ⟨by decide, by decide, by decide⟩

end Sys2Proof.Laws
end

