-- ==== Sys2Proof/Laws/Returns.lean ====
section
/-! SUPPORT. From an execution of CPUID to the fields of what it returned: the lemmas a statement about one function
needs. -/

namespace Sys2Proof.Machine

variable {s : State}

/-- An execution that may complete does. -/
theorem exec_of_mayExecute (h : s.mayExecute) : exec .cpuid s = .next s.afterCpuid :=
  exec_cpuid_of_enabled s ((cpuidDisabled_eq_false s).mpr h)

/-- The four return values, from the entry. -/
theorem cpuidResult_of_entry {e : Entry}
    (h : leafEntry s.cfg s.env (s.readReg .eax) (s.readReg .ecx) = e) : s.cpuidResult = e.fill s.draws4 := by
  rw [State.cpuidResult, leaf, h]

/-- The return values of a standard function in range, its gate open. -/
theorem cpuidResult_standard {fn : Word} (h : s.readReg .eax = fn) (hs : fn < 0x40000000) (hr : fn ≤ s.cfg.LFuncStd)
    (hg : gateOpen s.cfg fn = true) :
    s.cpuidResult = (standardEntry s.cfg s.env fn (s.readReg .ecx)).fill s.draws4 :=
  cpuidResult_of_entry (by rw [h]; exact leafEntry_standard hs hr hg)

/-- The return values of an extended function in range, its gate open. -/
theorem cpuidResult_extended {fn : Word} (h : s.readReg .eax = fn) (hs : 0x80000000 ≤ fn) (hr : fn ≤ s.cfg.LFuncExt)
    (hg : gateOpen s.cfg fn = true) :
    s.cpuidResult = (extendedEntry s.cfg s.env fn (s.readReg .ecx)).fill s.draws4 :=
  cpuidResult_of_entry (by rw [h]; exact leafEntry_extended hs hr hg)

/-- A field `REG[hi:lo]` of a returned register. -/
theorem bitsOf_fill {fs : Register} {draw : Word} {hi lo : Nat} {v : BitVec (hi - lo + 1)}
    (hs : Register.shapeOk fs = true) (hm : (⟨hi, lo, v⟩ : Field) ∈ fs) : bitsOf (Register.fill fs draw) hi lo = v :=
  Register.extract_fill fs draw hs ⟨hi, lo, v⟩ hm

/-- A field of kind `cond` is present when its condition holds (R79). -/
theorem mem_onlyIf {c : Bool} {f : Field} (h : c = true) : f ∈ Field.onlyIf c f := by simp [Field.onlyIf, h]

/-- The results of the state after an execution. -/
theorem results_afterCpuid (s : State) : s.afterCpuid.results = s.cpuidResult := by
  simp [State.results]

/-- The registers of the state after an execution hold its results. -/
theorem holds_afterCpuid (s : State) : s.afterCpuid.holds s.cpuidResult :=
  ⟨afterCpuid_eax s, afterCpuid_ebx s, afterCpuid_ecx s, afterCpuid_edx s⟩

/-- The characters of the three vendor constants (41_std_fn0_to_fn7.md R101). `simp` on the extractions of these
constants does not come back; cite this. -/
theorem vendorString_constants (a : Word) :
    vendorString ⟨a, 0x68747541, 0x444D4163, 0x69746E65⟩ =
      [0x41, 0x75, 0x74, 0x68, 0x65, 0x6E, 0x74, 0x69, 0x63, 0x41, 0x4D, 0x44] := by
  have h1 : wordBytes 0x68747541 = [0x41, 0x75, 0x74, 0x68] := by decide
  have h2 : wordBytes 0x69746E65 = [0x65, 0x6E, 0x74, 0x69] := by decide
  have h3 : wordBytes 0x444D4163 = [0x63, 0x41, 0x4D, 0x44] := by decide
  simp only [vendorString, h1, h2, h3, List.cons_append, List.nil_append]

end Sys2Proof.Machine
end

