-- ==== Sys2Proof/Tests/Slice0.lean ====
section
/-! SUPPORT. Tests of the model.

Expected results are the spec's: the worked examples and vectors of 95_test_vectors.md (the theorem names the vector),
the defined masks of spec/cpuid_field_table.json, and the tables E-3, E-4 and V-D1. "Reserved drawn as 0" is a fixed
quadruple of draws given to `leaf`; no test says what the draws of an execution are. The theorems `test_meets_…` show
a state that meets every hypothesis of the statement they name, clause by clause. -/

namespace Sys2Proof.Tests

open Sys2Proof Sys2Proof.Machine

/-! ## A small processor -/

/-- The classes of the subfunctions of function Dh: 2, 0Bh, 0Ch and 3Eh implemented, 9 undescribed. -/
def classes : Vector SubfunctionClass 61 :=
  ((((Vector.replicate 61 SubfunctionClass.unimplemented).set 0 .implemented).set 9 .implemented).set 10
    .implemented).set 60 .implemented |>.set 7 .undescribed

/-- The caches of the example of R281: L1 data, L1 instruction, L2, L3. -/
def caches : List Record.Cache :=
  [ { EAX := { NumSharingCache := 1, SelfInitialization := 1, CacheLevel := 1, CacheType := 1 },
      EBX := { CacheNumWays := 7, CacheLineSize := 0x3F }, ECX := { CacheNumSets := 0x3F }, EDX := { WBINVD := 1 } },
    { EAX := { CacheLevel := 1, CacheType := 2, FullyAssociative := 1 } },
    { EAX := { CacheLevel := 2, CacheType := 3 } },
    { EAX := { NumSharingCache := 15, SelfInitialization := 1, CacheLevel := 3, CacheType := 3 } } ]

/-- Four levels: Core, Complex, Die, Socket. -/
def levels : List Record.Level :=
  [ { EAX := { MaskWidth := 1 }, EBX := { NumLogProc := 2 }, ECX := { LevelType := 1 } },
    { EAX := { MaskWidth := 4 }, ECX := { LevelType := 2 } },
    { ECX := { LevelType := 3 } },
    { ECX := { LevelType := 4 } } ]

/-- The standard half of the record of the vectors V-1, V-5 to V-7, V-B, V-D, V-F. -/
def standardCfg : Cfg :=
  { LFuncStd := 0x10, LFuncExt := 0x80000026, ApicExists := 1, Fn7_MaxSubFn := 1, FnB_Levels := 2, x2APIC_ID := 5,
    FnD_Class := classes, XFeatureEnabledSizeMax := { entries := [(7, 0x340)], other := 0x240 },
    Fn0000_0001_EAX := { ExtFamily := 8, ExtModel := 3, BaseFamily := 0xF, BaseModel := 1 },
    Fn0000_0001_EBX := { LocalApicId := 5, LogicalProcessorCount := 0x10, CLFlush := 8 },
    Fn0000_0001_ECX :=
      { SSE3 := 1, SSSE3 := 1, CMPXCHG16B := 1, SSE41 := 1, SSE42 := 1, POPCNT := 1, XSAVE := 1, AVX := 1 },
    Fn0000_0001_EDX := ⟨1, 1, 1, 1, 1, 1, 1, 1, 1, 1, 1, 1, 1, 1, 1, 1, 1, 1, 1, 1, 1, 1⟩,
    Fn0000_0005_EAX := ⟨0x40⟩, Fn0000_0005_EBX := ⟨0x40⟩, Fn0000_0005_ECX := ⟨1, 1⟩,
    Fn0000_0006_EAX := ⟨1⟩, Fn0000_0006_ECX := ⟨1⟩,
    Fn0000_0007_EBX_x0 := { FSGSBASE := 1, BMI1 := 1, AVX2 := 1, SMEP := 1, BMI2 := 1 },
    Fn0000_0007_ECX_x0 := { UMIP := 1, PKU := 1 }, Fn0000_0007_EAX_x1 := ⟨1, 1⟩,
    Fn0000_000B_EAX_x0 := ⟨1⟩, Fn0000_000B_EBX_x0 := ⟨2⟩, Fn0000_000B_EAX_x1 := ⟨4⟩, Fn0000_000B_EBX_x1 := ⟨16⟩,
    Fn0000_000D_EAX_x0 := ⟨7⟩, Fn0000_000D_ECX_x0 := ⟨0x340⟩,
    Fn0000_000D_EAX_x1 := ⟨1, 1, 1, 1⟩, Fn0000_000D_ECX_x1 := ⟨1, 1⟩,
    Fn0000_000D_EAX_x2 := ⟨0x100⟩, Fn0000_000D_EBX_x2 := ⟨0x240⟩,
    Fn0000_000D_EAX_x0B := ⟨0x10⟩, Fn0000_000D_EBX_x0B := ⟨0x348⟩, Fn0000_000D_EAX_x0C := ⟨0x18⟩,
    Fn0000_000D_EAX_x3E := ⟨0x80⟩, Fn0000_000D_EBX_x3E := ⟨0x340⟩,
    Fn0000_000F_EBX_x0 := ⟨0xFF⟩, Fn0000_000F_EDX_x0 := ⟨1⟩,
    Fn0000_000F_EAX_x1 := { OverflowBit := 1, CounterSize := 0x14 }, Fn0000_000F_EBX_x1 := ⟨0x40⟩,
    Fn0000_0010_EDX_x0 := ⟨1⟩, Fn0000_0010_EAX_x1 := ⟨15⟩, Fn0000_0010_ECX_x1 := ⟨1⟩, Fn0000_0010_EDX_x1 := ⟨15⟩ }

/-- The record of the vectors V-X and V-Y over it. -/
def demoCfg : Cfg :=
  { standardCfg with
    Fn8000_0001_EBX := { PkgType := 2 },
    Fn8000_0001_ECX :=
      { LahfSahf := 1, CmpLegacy := 1, SVM := 1, ExtApicSpace := 1, AltMovCr8 := 1, ABM := 1, SSE4A := 1,
        MisAlignSse := 1, _3DNowPrefetch := 1, OSVW := 1, SKINIT := 1, WDT := 1, TopologyExtensions := 1 },
    Fn8000_0001_EDX := { SysCallSysRet := 1, NX := 1, MmxExt := 1, FFXSR := 1, Page1GB := 1, RDTSCP := 1, LM := 1 },
    Fn8000_0005_EAX := ⟨0xFF, 64, 0xFF, 64⟩, Fn8000_0005_EBX := ⟨0xFF, 64, 0xFF, 64⟩,
    Fn8000_0005_ECX := ⟨32, 8, 1, 64⟩, Fn8000_0005_EDX := ⟨64, 4, 1, 64⟩,
    Fn8000_0006_EAX := ⟨6, 1024, 4, 512⟩, Fn8000_0006_EBX := ⟨6, 1024, 4, 512⟩,
    Fn8000_0006_ECX := ⟨512, 6, 1, 64⟩, Fn8000_0006_EDX := ⟨0x40, 9, 1, 64⟩,
    Fn8000_0007_EBX := ⟨1, 1, 1, 1⟩,
    Fn8000_0007_EDX := { TS := 1, TTP := 1, TM := 1, HwPstate := 1, TscInvariant := 1, CPB := 1, EffFreqRO := 1 },
    Fn8000_0008_EAX := { LinAddrSize := 48, PhysAddrSize := 48 },
    Fn8000_0008_EBX :=
      { CLZERO := 1, InstRetCntMsr := 1, RstrFpErrPtrs := 1, RDPRU := 1, WBNOINVD := 1, IBPB := 1, IBRS := 1,
        STIBP := 1, SSBD := 1 },
    Fn8000_0008_ECX := { ApicIdSize := 4, NC := 0xF }, Fn8000_0008_EDX := { MaxRdpruID := 1, InvlpgbCountMax := 7 },
    Fn8000_000A_EAX := ⟨1⟩, Fn8000_000A_EBX := ⟨0x8000⟩, Fn8000_000A_ECX := ⟨1⟩,
    Fn8000_000A_EDX :=
      { NP := 1, LbrVirt := 1, SVML := 1, NRIPS := 1, TscRateMsr := 1, VmcbClean := 1, FlushByAsid := 1,
        DecodeAssists := 1, PauseFilter := 1, PauseFilterThreshold := 1 },
    Fn8000_0019_EAX := ⟨0xF, 64, 0xF, 64⟩, Fn8000_001A_EAX := { FP256 := 1, MOVU := 1 },
    Fn8000_001B_EAX := { (⟨1, 1, 1, 1, 1, 1, 1, 1, 1, 1⟩ : Record.Fn8000_001B_EAX) with IbsL3MissFiltering := 0 },
    Fn8000_001C_EAX := { LwpAvail := 1, LwpVAL := 1, LwpIRE := 1, LwpBRE := 1 },
    Fn8000_001C_EBX := { LwpEventOffset := 128, LwpMaxEvents := 3, LwpEventSize := 32, LwpCbSize := 19 },
    Fn8000_001C_ECX := { LwpVersion := 1, LwpMinBufferSize := 1 },
    Fn8000_001C_EDX := ⟨1, 1, 1, 1, 1, 1, 1, 1, 1, 1⟩,
    Fn8000_001D_x := caches,
    Fn8000_001E_EAX := ⟨5⟩, Fn8000_001E_EBX := { ThreadsPerComputeUnit := 1, ComputeUnitId := 2 },
    Fn8000_001E_ECX := { NodesPerProcessor := 1, NodeId := 3 },
    Fn8000_001F_EAX := { SME := 1, SEV := 1, SEV_ES := 1, SEV_SNP := 1, VMPL := 1 },
    Fn8000_001F_EBX := { NumVMPL := 4, PhysAddrReduction := 5, CbitPosition := 51 },
    Fn8000_001F_ECX := ⟨509⟩, Fn8000_001F_EDX := ⟨100⟩,
    Fn8000_0020_EBX_x0 := { L3MBE := 1, L3SMBE := 1, BMEC := 1, ABMC := 1 },
    Fn8000_0020_EAX_x1 := ⟨12⟩, Fn8000_0020_EDX_x1 := ⟨15⟩, Fn8000_0020_EAX_x2 := ⟨12⟩, Fn8000_0020_EDX_x2 := ⟨15⟩,
    Fn8000_0020_EBX_x3 := ⟨2⟩, Fn8000_0020_ECX_x3 := ⟨1, 1, 1, 1, 1, 1, 1⟩,
    Fn8000_0020_EAX_x5 := { OverflowBit := 1, CounterSize := 20 }, Fn8000_0020_EBX_x5 := ⟨31⟩,
    Fn8000_0020_ECX_x5 := ⟨1⟩,
    Fn8000_0021_EAX :=
      { NoNestedDataBp := 1, LFenceAlwaysSerializing := 1, SmmPgCfgLock := 1, NullSelectClearsBase := 1,
        AutomaticIBRS := 1, NoSmmCtlMSR := 1, FastShortRepStosb := 1, FastShortRepeCmpsbs := 1, PrefetchCtlMsr := 1,
        CpuidUserDis := 1 },
    Fn8000_0021_EBX := { RapSize := 8, MicrocodePatchSize := 0x15C },
    Fn8000_0022_EAX := ⟨1, 1, 1⟩,
    Fn8000_0022_EBX := { NumPerfCtrNB := 16, LbrStackSize := 16, NumPerfCtrCore := 6 },
    Fn8000_0023_EAX := ⟨1⟩, Fn8000_0023_EBX := ⟨63⟩,
    Fn8000_0025_EAX := { MaxRmpSegSize := 0x30, MinRmpSegSize := 0x24 },
    Fn8000_0025_EBX := { NumCachedSegments := 512 },
    Fn8000_0026_EDX := ⟨5⟩, Fn8000_0026_x := levels }

/-- The same with the gates PQM, PQE, IBS and LWP open too. -/
def openCfg : Cfg :=
  { demoCfg with
    Fn0000_0007_EBX_x0 := { demoCfg.Fn0000_0007_EBX_x0 with PQM := 1, PQE := 1 },
    Fn8000_0001_ECX := { demoCfg.Fn8000_0001_ECX with IBS := 1, LWP := 1 } }

/-- The same with every gate closed. -/
def closedCfg : Cfg :=
  { demoCfg with Fn8000_0001_ECX := { CmpLegacy := 1 }, Fn8000_0020_EBX_x0 := default }

/-- `env` of the vectors; the name string is "AMD Ryzen 7 Test" and 32 zeros (V-N1). -/
def demoEnv : Env where
  OSXSAVE := 1
  CR4_PKE := 1
  XCR0 := 7
  XSS := 0
  ApicEn := 1
  NameString := ⟨#[0x41, 0x4D, 0x44, 0x20, 0x52, 0x79, 0x7A, 0x65, 0x6E, 0x20, 0x37, 0x20, 0x54, 0x65, 0x73, 0x74,
    0, 0, 0, 0, 0, 0, 0, 0, 0, 0, 0, 0, 0, 0, 0, 0, 0, 0, 0, 0, 0, 0, 0, 0, 0, 0, 0, 0, 0, 0, 0, 0], rfl⟩
  CPL := 3
  CpuidUserDisEnabled := 0

/-- A state with a function number in EAX, a subfunction in ECX, and CPUID at pc. -/
def stateOf (cfg : Cfg) (fn sub : Word) : State where
  rax := fn.setWidth 64
  rbx := 0x11111111
  rcx := sub.setWidth 64
  rdx := 0x33333333
  pc := 0x1000
  ipWidth := .w32
  eflags := 0x246
  cfg := cfg
  upperHalfPolicy := .zero
  env := demoEnv
  apicIdRegister := 5
  mem := [(0x1000, 0x0F), (0x1001, 0xA2)]
  drawCount := 0

/-- The same on the processor of the vectors, all gates open. -/
def demo (fn sub : Word) : State := stateOf openCfg fn sub

/-- The state of program P5: CPUID disabled for user mode. -/
def disabled : State := { demo 0 0x22222222 with env := { demoEnv with CpuidUserDisEnabled := 1 } }

/-- Four draws of 0. -/
def zeros : Regs4 := ⟨0, 0, 0, 0⟩

/-- What the execution returns on the small processor, reserved bits drawn as 0. -/
def returned (fn sub : Word) : Regs4 := leaf openCfg demoEnv zeros fn sub

/-! ## Decoding (30_encoding.md R50, R58; V-G13, V-G14) -/

theorem test_decode_cpuid : decode [0x0F, 0xA2, 0x90] = .ok (.cpuid, [0x90]) := rfl

theorem test_decode_table_word : decodeTableWord 16 0x0FA2 = some .cpuid ∧ 0x0FA2 = 4002 := by decide

theorem test_decode_prefixed :
    decode [0x66, 0x0F, 0xA2] = .error (.prefixedForm 0x66) ∧ decode [0xF3, 0x0F, 0xA2] = .error (.prefixedForm 0xF3) ∧
      decode [0x48, 0x0F, 0xA2] = .error (.prefixedForm 0x48) := ⟨rfl, rfl, rfl⟩

theorem test_decode_other :
    decode [0x0F, 0xA3] = .error (.notCpuid 0x0F 0xA3) ∧ decode [0xA2, 0x0F] = .error (.notCpuid 0xA2 0x0F) ∧
      decode [0x0F] = .error .truncated ∧ decode [] = .error .truncated := ⟨rfl, rfl, rfl, rfl⟩

theorem test_encode : encode .cpuid = [0x0F, 0xA2] ∧ Instr.cpuid.length = 2 := by decide

/-! ## Well-formedness: a record that breaks each constraint is refused -/

theorem test_demo_wellFormed : demoCfg.wellFormed = true ∧ openCfg.wellFormed = true ∧ Cfg.minimal.wellFormed = true := by
  decide

theorem test_refuses_family :
    ({ demoCfg with Fn0000_0001_EAX := { BaseFamily := 0xE } } : Cfg).wellFormed = false ∧
      ({ demoCfg with Fn0000_0001_EAX := { BaseFamily := 0xF, ExtFamily := 0xF1 } } : Cfg).identityOk = false := by
  decide

theorem test_refuses_tableE5 :
    ({ demoCfg with Fn0000_0001_EBX := { LogicalProcessorCount := 0xF } } : Cfg).wellFormed = false ∧
      ({ demoCfg with Fn8000_0001_ECX := default } : Cfg).tableE5Ok = false ∧
      ({ demoCfg with Fn8000_0008_ECX := default } : Cfg).tableE5Ok = false := by decide

theorem test_refuses_ranges :
    ({ demoCfg with LFuncStd := 0x40000000 } : Cfg).wellFormed = false ∧
      ({ demoCfg with LFuncExt := 0x7FFFFFFF } : Cfg).rangesOk = false := by decide

theorem test_refuses_caches : ({ demoCfg with Fn8000_001D_x := [default] } : Cfg).wellFormed = false := by decide

theorem test_refuses_levels : ({ demoCfg with Fn8000_0026_x := [default] } : Cfg).wellFormed = false := by decide

theorem test_refuses_mnlp :
    ({ demoCfg with Fn8000_0008_ECX := { ApicIdSize := 3, NC := 0xF } } : Cfg).wellFormed = false := by decide

theorem test_refuses_classes :
    ({ demoCfg with FnD_Class := classes.set 0 .undescribed } : Cfg).wellFormed = false ∧
      ({ demoCfg with FnD_Class := classes.set 7 .implemented } : Cfg).classesOk = false := by decide

theorem test_refuses_size :
    ({ demoCfg with XFeatureEnabledSizeMax := { other := 0x240 } } : Cfg).wellFormed = false ∧
      ({ demoCfg with XFeatureEnabledSizeMax := { entries := [(7, 0x340)], other := 0x341 } } : Cfg).sizeBounded =
        false := by decide

theorem test_refuses_env :
    demoEnv.legalFor demoCfg = true ∧ { demoEnv with XCR0 := 8 }.legalFor demoCfg = false ∧
      { demoEnv with XSS := 0x800 }.legalFor Cfg.minimal = false ∧
      { demoEnv with CpuidUserDisEnabled := 1 }.legalFor Cfg.minimal = false := by decide

/-! ## One step -/

/-- From reset: the word of the table runs as the first instruction. -/
theorem test_step_from_reset :
    step (State.reset.withFetchWord 16 0x0FA2) = exec .cpuid (State.reset.withFetchWord 16 0x0FA2) := rfl

/-- From reset with nothing placed: no text at FFF0h. -/
theorem test_step_without_text : step State.reset = .refused (.textAbsent 0xFFF0) := rfl

/-- V-G10, P5: the fault. -/
theorem test_step_disabled : step disabled = .fault (.gp 0) := rfl

/-- What function 0 returns on the small processor is fixed in all four registers. -/
theorem cpuidResult_function0 (s : State) (h : s.readReg .eax = 0) (hc : s.cfg = openCfg) :
    s.cpuidResult = ⟨0x10, 0x68747541, 0x444D4163, 0x69746E65⟩ := by
  rw [cpuidResult_standard h (by decide) (by rw [hc]; decide) rfl, hc]
  show Entry.fill (leaf0000_0000 _ _ _) _ = _
  simp only [leaf0000_0000, fn0000_0000_EAX, fn0000_0000_EBX, fn0000_0000_ECX, fn0000_0000_EDX, Entry.fill,
    Register.fill_whole]
  rfl

/-- V-G11, V-G8, S4: the facility enabled, privilege level 0: function 0, ECX ignored. -/
theorem test_step_function0 :
    ∃ t, step { disabled with env := { disabled.env with CPL := 0 } } = .next t ∧
      t.holds ⟨0x10, 0x68747541, 0x444D4163, 0x69746E65⟩ ∧ t.pc = 0x1002 ∧ t.eflags = 0x246 :=
  ⟨State.afterCpuid _, rfl, cpuidResult_function0 { disabled with env := { disabled.env with CPL := 0 } } (by decide) rfl ▸
    holds_afterCpuid _, by decide, rfl⟩

/-- R22: pc wraps at the width of the instruction pointer; the two bytes stand at its top and at 0. -/
theorem test_step_wraps :
    ∃ t, step { demo 0 0 with pc := 0xFFFFFFFF, mem := [(0, 0xA2), (0xFFFFFFFF, 0x0F)] } = .next t ∧ t.pc = 1 :=
  ⟨_, rfl, by decide⟩

/-- V-G12: only bits 31:0 of RAX are read, and bits 63:32 become 0 under the policy zero. -/
theorem test_step_upper_half :
    ∃ t, step { demo 0 0 with rax := 0xFFFFFFFF00000000, ipWidth := .w64 } = .next t ∧ t.rax = 0x10 := by
  refine ⟨State.afterCpuid _, rfl, ?_⟩
  rw [afterCpuid_rax, cpuidResult_function0 _ (by decide) rfl]
  decide

/-- V-G13: the three prefixed forms at pc. -/
theorem test_step_prefixed :
    step { demo 0 0 with mem := [(0x1000, 0x66), (0x1001, 0x0F), (0x1002, 0xA2)] } = .refused (.prefixedForm 0x66) :=
  rfl

/-- R42: a stored word, bits 7:0 at the lowest address, across the top of the address space. -/
theorem test_store_order :
    Memory.write32 [] 0xFFFFFFFFFFFFFFFE 0x11223344 =
      [(0, 0x22), (1, 0x11), (0xFFFFFFFFFFFFFFFE, 0x44), (0xFFFFFFFFFFFFFFFF, 0x33)] := by decide

/-! ## Vectors -/

/-- S4, S5. -/
theorem test_vendor :
    returned 0 0x12345678 = ⟨0x10, 0x68747541, 0x444D4163, 0x69746E65⟩ ∧
      returned 0x80000000 0 = ⟨0x80000026, 0x68747541, 0x444D4163, 0x69746E65⟩ := by decide

/-- V-1a, V-1d, V-1f, V-1i; V-Xa, V-Xb, V-Xd, V-Xe. -/
theorem test_identity_and_features :
    leaf demoCfg demoEnv zeros 1 0 = ⟨0x00830F10, 0x05100800, 0x1C982201, 0x178BFBFF⟩ ∧
      leaf demoCfg demoEnv zeros 0x80000001 0 = ⟨0x00830F10, 0x20000000, 0x004033FF, 0x2FD3FBFF⟩ := by decide

/-- V-1b, V-1e, V-1g, V-1j, V-Xc, V-Xf: reserved bits drawn as ones, HTT, OSXSAVE and ApicEn at 0, Family 0Fh. -/
theorem test_identity_variants :
    (leaf demoCfg demoEnv ⟨0xFFFFFFFF, 0, 0, 0⟩ 1 0).eax = 0xF083FF10 ∧
      (leaf { demoCfg with Fn0000_0001_EDX := default } demoEnv ⟨0, 0x00FF0000, 0, 0⟩ 1 0).ebx = 0x05FF0800 ∧
      (leaf demoCfg { demoEnv with OSXSAVE := 0 } zeros 1 0).ecx = 0x14982201 ∧
      (leaf demoCfg { demoEnv with ApicEn := 0 } zeros 1 0).edx = 0x178BF9FF ∧
      (leaf demoCfg { demoEnv with ApicEn := 0 } zeros 0x80000001 0).edx = 0x2FD3F9FF ∧
      (leaf { demoCfg with Fn0000_0001_EAX := { BaseFamily := 0xF } } demoEnv ⟨0, 0xF0000000, 0, 0⟩ 0x80000001 0).ebx =
        0xF0000000 := by decide

/-- V-5a, V-6a, V-7a to V-7e. -/
theorem test_functions_5_to_7 :
    returned 5 0 = ⟨0x40, 0x40, 3, 0⟩ ∧ returned 6 0 = ⟨4, 0, 1, 0⟩ ∧
      leaf demoCfg demoEnv zeros 7 0 = ⟨1, 0x1A9, 0x1C, 0⟩ ∧
      (leaf demoCfg { demoEnv with CR4_PKE := 0 } zeros 7 0).ecx = 0xC ∧ returned 7 1 = ⟨0x30, 0, 0, 0⟩ ∧
      leaf { demoCfg with Fn7_MaxSubFn := 0 } demoEnv ⟨1, 2, 3, 4⟩ 7 1 = ⟨1, 2, 3, 4⟩ ∧
      leaf openCfg demoEnv ⟨1, 2, 3, 4⟩ 7 0x100 = ⟨1, 2, 3, 4⟩ := by decide

/-- V-Ba to V-Bd, with the draws 1, 2, 3, 4 where a level is unimplemented. -/
theorem test_function_B :
    returned 0xB 0 = ⟨1, 2, 0x100, 5⟩ ∧ returned 0xB 1 = ⟨4, 16, 0x201, 5⟩ ∧
      leaf openCfg demoEnv ⟨1, 2, 3, 4⟩ 0xB 2 = ⟨0, 2, 3, 4⟩ ∧
      leaf openCfg demoEnv ⟨1, 2, 3, 4⟩ 0xB 0xFFFFFFFF = ⟨0, 2, 3, 4⟩ ∧
      leaf { openCfg with FnB_Levels := 1 } demoEnv ⟨1, 2, 3, 4⟩ 0xB 1 = ⟨0, 2, 3, 4⟩ := by decide

/-- V-Da to V-Dj. -/
theorem test_function_D :
    returned 0xD 0 = ⟨7, 0x340, 0x340, 0⟩ ∧ (leaf openCfg { demoEnv with XCR0 := 3 } zeros 0xD 0).ebx = 0x240 ∧
      returned 0xD 1 = ⟨0xF, 0x340, 0x1800, 0⟩ ∧ returned 0xD 2 = ⟨0x100, 0x240, 0, 0⟩ ∧
      returned 0xD 0xB = ⟨0x10, 0x348, 1, 0⟩ ∧ returned 0xD 0xC = ⟨0x18, 0, 1, 0⟩ ∧
      returned 0xD 0x3E = ⟨0x80, 0x340, 0, 0⟩ ∧ leaf openCfg demoEnv ⟨1, 2, 3, 4⟩ 0xD 3 = zeros ∧
      leaf openCfg demoEnv ⟨1, 2, 3, 4⟩ 0xD 0x3F = zeros ∧
      leaf openCfg demoEnv ⟨1, 2, 3, 4⟩ 0xD 0xFFFFFFFF = zeros ∧
      leaf openCfg demoEnv ⟨1, 2, 3, 4⟩ 0xD 9 = ⟨1, 2, 3, 4⟩ := by decide

/-- Table V-D1: the sixteen sums, the row number's bits being AVX, MPK, CET_U, CET_S from the left. -/
theorem test_table_VD1 :
    ((List.range 16).map fun n => compactAreaSize { demoEnv with
      XCR0 := BitVec.ofNat 64 (4 * (n / 8 % 2) + 0x200 * (n / 4 % 2)),
      XSS := BitVec.ofNat 64 (0x800 * (n / 2 % 2) + 0x1000 * (n % 2)) }) =
      [0x240, 0x258, 0x250, 0x268, 0x248, 0x260, 0x258, 0x270, 0x340, 0x358, 0x350, 0x368, 0x348, 0x360, 0x358,
        0x370] := by decide

/-- V-Fa to V-Ff; V-G6, V-Fc. -/
theorem test_functions_F_and_10 :
    returned 0xF 0 = ⟨0, 0xFF, 0, 2⟩ ∧ returned 0xF 1 = ⟨0x114, 0x40, 0, 0⟩ ∧ returned 0x10 0 = ⟨0, 0, 0, 2⟩ ∧
      returned 0x10 1 = ⟨0xF, 0, 4, 0xF⟩ ∧ leaf demoCfg demoEnv ⟨1, 2, 3, 4⟩ 0xF 0 = ⟨1, 2, 3, 4⟩ ∧
      leaf { openCfg with LFuncStd := 0xD } demoEnv ⟨1, 2, 3, 4⟩ 0xF 0 = ⟨1, 2, 3, 4⟩ := by decide

/-- V-N1. -/
theorem test_name_string :
    returned 0x80000002 0 = ⟨0x20444D41, 0x657A7952, 0x2037206E, 0x74736554⟩ ∧ returned 0x80000003 0 = zeros ∧
      returned 0x80000004 0 = zeros := by decide

/-- V-X5 to V-X8. -/
theorem test_functions_80000005_to_80000008 :
    returned 0x80000005 0 = ⟨0xFF40FF40, 0xFF40FF40, 0x20080140, 0x40040140⟩ ∧
      returned 0x80000006 0 = ⟨0x64004200, 0x64004200, 0x02006140, 0x01009140⟩ ∧
      returned 0x80000007 0 = ⟨0, 0xF, 0, 0x799⟩ ∧
      returned 0x80000008 0 = ⟨0x3030, 0x0100D217, 0x400F, 0x00010007⟩ := by decide

/-- V-Yb to V-Ye, and the example of R265. -/
theorem test_functions_8000000A_to_8000001C :
    returned 0x8000000A 0 = ⟨1, 0x8000, 0x40, 0x14FF⟩ ∧ returned 0x80000019 0 = ⟨0xF040F040, 0, 0, 0⟩ ∧
      returned 0x8000001A 0 = ⟨6, 0, 0, 0⟩ ∧ returned 0x8000001B 0 = ⟨0x1FF, 0, 0, 0⟩ ∧
      returned 0x8000001C 0 = ⟨0xF, 0x80032013, 0x00010200, 0xE000007F⟩ := by decide

/-- V-Yf to V-Yk; the L3 example of R282. -/
theorem test_functions_8000001D_to_8000001F :
    returned 0x8000001D 0 = ⟨0x4121, 0x01C0003F, 0x3F, 1⟩ ∧ (returned 0x8000001D 3).eax = 0x3C163 ∧
      leaf openCfg demoEnv ⟨0xFF, 2, 3, 4⟩ 0x8000001D 4 = ⟨0xE0, 2, 3, 4⟩ ∧
      leaf openCfg demoEnv ⟨0xFF, 2, 3, 4⟩ 0x8000001D 1 = ⟨0x222, 0, 3, 4⟩ ∧
      leaf closedCfg demoEnv ⟨0xFF, 2, 3, 4⟩ 0x8000001D 0 = ⟨0xFF, 2, 3, 4⟩ ∧
      returned 0x8000001E 0 = ⟨5, 0x102, 0x103, 0⟩ ∧
      leaf openCfg { demoEnv with ApicEn := 0 } ⟨9, 0, 0, 0⟩ 0x8000001E 0 = ⟨9, 0x102, 0x103, 0⟩ ∧
      returned 0x8000001F 0 = ⟨0x3B, 0x4173, 0x1FD, 0x64⟩ := by decide

/-- V-Yl to V-Yn. -/
theorem test_function_80000020 :
    returned 0x80000020 0 = ⟨0, 0x2E, 0, 0⟩ ∧ returned 0x80000020 1 = ⟨12, 0, 0, 15⟩ ∧
      returned 0x80000020 2 = ⟨12, 0, 0, 15⟩ ∧ returned 0x80000020 3 = ⟨0, 2, 0x7F, 0⟩ ∧
      returned 0x80000020 5 = ⟨0x114, 0x1F, 1, 0⟩ ∧
      leaf closedCfg demoEnv ⟨1, 2, 3, 4⟩ 0x80000020 5 = ⟨1, 2, 3, 4⟩ := by decide

/-- V-Yo to V-Yu. -/
theorem test_functions_80000021_to_80000026 :
    returned 0x80000021 0 = ⟨0x22F4D, 0x8015C, 0, 0⟩ ∧ returned 0x80000022 0 = ⟨7, 0x4106, 0, 0⟩ ∧
      returned 0x80000023 0 = ⟨1, 0x3F, 0, 0⟩ ∧ returned 0x80000025 0 = ⟨0xC24, 0x200, 0, 0⟩ ∧
      returned 0x80000026 0 = ⟨1, 2, 0x100, 5⟩ ∧ (returned 0x80000026 1).ecx = 0x201 ∧
      (returned 0x80000026 1).edx = 5 ∧ leaf openCfg demoEnv ⟨1, 2, 3, 4⟩ 0x80000026 4 = ⟨1, 2, 4, 4⟩ ∧
      (returned 0x80000026 0xFFFFFFFF).ecx = 0xFF := by decide

/-- V-G1 to V-G5, V-Ya: each register is its draw. -/
theorem test_functions_that_return_draws :
    ([0x11, 2, 0xFFFFFFFF, 0x40000000, 0xFFFF, 0x7FFFFFFF, 0x80000027, 0x80000009, 0x80000010, 0x80000024] :
      List Word).all (fun fn => leaf openCfg demoEnv ⟨1, 2, 3, 4⟩ fn 0 == ⟨1, 2, 3, 4⟩) = true := by decide

/-! ## Defined masks (spec/cpuid_field_table.json, every entry) -/

/-- File 41. -/
theorem test_masks_standard :
    ∀ r ∈ ([
      (0x0, 0x0, ⟨0xFFFFFFFF, 0xFFFFFFFF, 0xFFFFFFFF, 0xFFFFFFFF⟩),
      (0x1, 0x0, ⟨0xFFF0FFF, 0xFFFFFFFF, 0xFEF8320B, 0x178BFBFF⟩),
      (0x5, 0x0, ⟨0xFFFF, 0xFFFF, 0x3, 0⟩),
      (0x6, 0x0, ⟨0x4, 0, 0x1, 0⟩),
      (0x7, 0x0, ⟨0xFFFFFFFF, 0xF1BF97AB, 0x19415FDE, 0⟩),
      (0x7, 0x1, ⟨0x30, 0, 0, 0⟩)] : List (Word × Word × Regs4)),
      (leafEntry openCfg demoEnv r.1 r.2.1).definedMask = r.2.2 := by decide

/-- File 42. -/
theorem test_masks_standard_B :
    ∀ r ∈ ([
      (0xB, 0x0, ⟨0x1F, 0xFFFF, 0xFFFF, 0xFFFFFFFF⟩),
      (0xB, 0x1, ⟨0x1F, 0xFFFF, 0xFFFF, 0xFFFFFFFF⟩),
      (0xB, 0x2, ⟨0xFFFFFFFF, 0, 0, 0⟩),
      (0xD, 0x3, ⟨0xFFFFFFFF, 0xFFFFFFFF, 0xFFFFFFFF, 0xFFFFFFFF⟩),
      (0xD, 0x0, ⟨0xFFFFFFFF, 0xFFFFFFFF, 0xFFFFFFFF, 0xFFFFFFFF⟩),
      (0xD, 0x1, ⟨0xF, 0xFFFFFFFF, 0x1800, 0⟩),
      (0xD, 0x2, ⟨0xFFFFFFFF, 0xFFFFFFFF, 0, 0⟩),
      (0xD, 0xB, ⟨0xFFFFFFFF, 0xFFFFFFFF, 0xFFFFFFFF, 0xFFFFFFFF⟩),
      (0xD, 0xC, ⟨0xFFFFFFFF, 0xFFFFFFFF, 0xFFFFFFFF, 0xFFFFFFFF⟩),
      (0xD, 0x3E, ⟨0xFFFFFFFF, 0xFFFFFFFF, 0, 0⟩),
      (0xD, 0x3F, ⟨0xFFFFFFFF, 0xFFFFFFFF, 0xFFFFFFFF, 0xFFFFFFFF⟩),
      (0xF, 0x0, ⟨0, 0xFFFFFFFF, 0, 0x2⟩),
      (0xF, 0x1, ⟨0x1FF, 0xFFFFFFFF, 0xFFFFFFFF, 0x7⟩),
      (0x10, 0x0, ⟨0, 0, 0, 0x2⟩),
      (0x10, 0x1, ⟨0x1F, 0xFFFFFFFF, 0x4, 0xFFFF⟩)] : List (Word × Word × Regs4)),
      (leafEntry openCfg demoEnv r.1 r.2.1).definedMask = r.2.2 := by decide

/-- File 43. -/
theorem test_masks_extended :
    ∀ r ∈ ([
      (0x80000000, 0x0, ⟨0xFFFFFFFF, 0xFFFFFFFF, 0xFFFFFFFF, 0xFFFFFFFF⟩),
      (0x80000001, 0x0, ⟨0xFFF0FFF, 0xF000FFFF, 0x7DE3BFFF, 0xEFD3FBFF⟩),
      (0x80000002, 0x0, ⟨0xFFFFFFFF, 0xFFFFFFFF, 0xFFFFFFFF, 0xFFFFFFFF⟩),
      (0x80000003, 0x0, ⟨0xFFFFFFFF, 0xFFFFFFFF, 0xFFFFFFFF, 0xFFFFFFFF⟩),
      (0x80000004, 0x0, ⟨0xFFFFFFFF, 0xFFFFFFFF, 0xFFFFFFFF, 0xFFFFFFFF⟩),
      (0x80000005, 0x0, ⟨0xFFFFFFFF, 0xFFFFFFFF, 0xFFFFFFFF, 0xFFFFFFFF⟩),
      (0x80000006, 0x0, ⟨0xFFFFFFFF, 0xFFFFFFFF, 0xFFFFFFFF, 0xFFFCFFFF⟩),
      (0x80000007, 0x0, ⟨0, 0xF, 0xFFFFFFFF, 0x1FDF⟩),
      (0x80000008, 0x0, ⟨0xFFFFFF, 0x7F3FF35F, 0x3F0FF, 0xFFFFFFFF⟩)] : List (Word × Word × Regs4)),
      (leafEntry openCfg demoEnv r.1 r.2.1).definedMask = r.2.2 := by decide

/-- File 44. -/
theorem test_masks_extended_9 :
    ∀ r ∈ ([
      (0x8000000A, 0x0, ⟨0xFF, 0xFFFFFFFF, 0x40, 0x7FBFB5FF⟩),
      (0x80000019, 0x0, ⟨0xFFFFFFFF, 0xFFFFFFFF, 0, 0⟩),
      (0x8000001A, 0x0, ⟨0x7, 0, 0, 0⟩),
      (0x8000001B, 0x0, ⟨0x9FF, 0, 0, 0⟩),
      (0x8000001C, 0x0, ⟨0xE000007F, 0xFFFFFFFF, 0xF0FFFFFF, 0xE000007F⟩)] : List (Word × Word × Regs4)),
      (leafEntry openCfg demoEnv r.1 r.2.1).definedMask = r.2.2 := by decide

/-- File 45. -/
theorem test_masks_extended_1D :
    ∀ r ∈ ([
      (0x8000001D, 0x0, ⟨0x3FFC3FF, 0xFFFFFFFF, 0xFFFFFFFF, 0x3⟩),
      (0x8000001D, 0x4, ⟨0x1F, 0, 0, 0⟩),
      (0x8000001E, 0x0, ⟨0xFFFFFFFF, 0xFFFF, 0x7FF, 0⟩),
      (0x8000001F, 0x0, ⟨0xFFFFFFFF, 0xFFFF, 0xFFFFFFFF, 0xFFFFFFFF⟩),
      (0x80000020, 0x0, ⟨0, 0x7E, 0, 0⟩),
      (0x80000020, 0x1, ⟨0xFFFFFFFF, 0, 0, 0xFFFFFFFF⟩),
      (0x80000020, 0x2, ⟨0xFFFFFFFF, 0, 0, 0xFFFFFFFF⟩),
      (0x80000020, 0x3, ⟨0, 0xFF, 0x7F, 0⟩),
      (0x80000020, 0x5, ⟨0x1FF, 0xFFFF, 0x1, 0⟩),
      (0x80000021, 0x0, ⟨0xF93FFFCF, 0xFFFFFF, 0, 0⟩),
      (0x80000022, 0x0, ⟨0x7, 0xFFFF, 0, 0⟩),
      (0x80000023, 0x0, ⟨0x1, 0xFFFF, 0, 0⟩),
      (0x80000025, 0x0, ⟨0xFFF, 0x7FF, 0, 0⟩),
      (0x80000026, 0x0, ⟨0xE000001F, 0xFFFFFFFF, 0xFFFF, 0xFFFFFFFF⟩),
      (0x80000026, 0x4, ⟨0, 0, 0xFFFF, 0⟩)] : List (Word × Word × Regs4)),
      (leafEntry openCfg demoEnv r.1 r.2.1).definedMask = r.2.2 := by decide

/-! ## Derived arithmetic -/

/-- S1, S2, V-1a, V-1c. -/
theorem test_family_and_model :
    familyFromEax 0x00100F00 = 0x10 ∧ modelFromEax 0x000E0F80 = 0xE8 ∧ familyFromEax 0xF083FF10 = 0x17 ∧
      modelFromEax 0xF083FF10 = 0x31 ∧ familyOf { BaseFamily := 0xF, ExtFamily := 0xF0 } = 0xFF ∧
      familyFromEax 0x0FF00E10 = 0x0E := by decide

/-- S3, S7, S8, S9, S10. -/
theorem test_worked_examples :
    logicalProcessors Cfg.minimal = 1 ∧ l3SizeRange { L3Size := 0x40 } = (33554432, 34078720) ∧
      shareId (5 : BitVec 8) 2 = 2 ∧ shareId (5 : BitVec 8) 16 = 0 ∧ threadsPerUnit { ThreadsPerComputeUnit := 1 } = 2 ∧
      mnlp { Fn8000_0008_ECX := { NC := 3 } } = 4 ∧ mnlp { Fn8000_0008_ECX := { NC := 0xB, ApicIdSize := 4 } } = 16 ∧
      logicalProcessors { Fn8000_0008_ECX := { NC := 0xB, ApicIdSize := 4 } } = 12 := by decide

/-- Tables E-3 and E-4. -/
theorem test_associativity :
    l1Associativity 0 = .reserved ∧ l1Associativity 1 = .directMapped ∧ l1Associativity 8 = .ways 8 ∧
      l1Associativity 0xFF = .fully ∧ l2Associativity 4 = .ways 4 5 ∧ l2Associativity 6 = .ways 8 15 ∧
      l2Associativity 9 = .seeFn8000_001D ∧ l2Associativity 0xE = .moreThan128 ∧ l2Associativity 0xF = .fully := by
  decide

/-- R313: a size field is unscaled with the bit 0, or where it is not taken for a scaled one, and 32 times with both. -/
theorem test_l2_tlb_entries :
    let scaled : Cfg := { Fn8000_0021_EAX := { L2TlbSizeX32 := 1 } }
    l2TlbEntries Cfg.minimal true 48 = 48 ∧ l2TlbEntries scaled false 48 = 48 ∧ l2TlbEntries scaled true 48 = 1536 ∧
      l2EntriesFor4M scaled true 3 = some 48 ∧ l2EntriesFor4M scaled false 3 = none := by decide

/-- R216, R236, R238, R269, R284, R311, R313: sizes. -/
theorem test_sizes :
    entriesFor4M (64 : BitVec 8) = some 32 ∧ entriesFor4M (3 : BitVec 8) = none ∧
      guestPhysAddrBits demoCfg.Fn8000_0008_EAX = 48 ∧ perfTscBits { PerfTscSize := 3 } = 64 ∧
      lwpcbBytes demoCfg.Fn8000_001C_EBX = 152 ∧ patchBytes demoCfg.Fn8000_0021_EBX = some 5568 ∧
      patchBound default = 5568 ∧ demoCfg.Fn8000_001D_x.map cacheBytes =
        [some 32768, none, some 1, some 1] := by decide

/-- V-Ma to V-Md: Table E-5. -/
theorem test_table_E5 :
    legacyLogicalProcessors Cfg.minimal = some 1 ∧ legacyLogicalProcessors demoCfg = some 16 ∧
      ({ demoCfg with Fn8000_0008_ECX := { NC := 0xFF } } : Cfg).wellFormed = true := by decide

/-! ## The hypotheses of the statements can be met -/

/-- The hypotheses of a statement about one standard function. -/
abbrev standardCase (s : State) (fn : Word) : Prop := s.mayExecute ∧ s.readReg .eax = fn ∧ fn ≤ s.cfg.LFuncStd

/-- The hypotheses of a statement about one extended function. -/
abbrev extendedCase (s : State) (fn : Word) : Prop := s.mayExecute ∧ s.readReg .eax = fn ∧ fn ≤ s.cfg.LFuncExt

/-- The facility off at level 3, and on at level 0. -/
theorem test_meets_CpuidCompletes :
    (demo 0 0).mayExecute ∧ ({ disabled with env := { disabled.env with CPL := 0 } } : State).mayExecute := by decide

/-- Both sides of the equivalence: a state that faults, and one that does not. -/
theorem test_meets_CpuidFaultsWhenDisabled :
    exec .cpuid disabled = .fault (.gp 0) ∧ disabled.env.CpuidUserDisEnabled = 1 ∧ 0 < disabled.env.CPL ∧
      ¬ 0 < ({ disabled with env := { disabled.env with CPL := 0 } } : State).env.CPL := ⟨rfl, by decide⟩

/-- Each policy. -/
theorem test_meets_CpuidUpperHalves :
    (demo 0 0).mayExecute ∧ (demo 0 0).upperHalfPolicy = .zero ∧
      ({ demo 0 0 with upperHalfPolicy := .draw } : State).mayExecute ∧
      ({ demo 0 0 with upperHalfPolicy := .draw } : State).upperHalfPolicy = .draw := by decide

/-- States that differ in everything CPUID does not read. -/
theorem test_meets_ResultsDependOnInputsOnly :
    (demo 1 0).mayExecute ∧
      sameInputs (demo 1 0) { demo 1 0 with rbx := 9, rdx := 9, pc := 9, ipWidth := .w16, eflags := 9, mem := [] } ∧
      ({ demo 1 0 with rbx := 9, rdx := 9, pc := 9, ipWidth := .w16, eflags := 9, mem := [] } : State).drawCount =
        (demo 1 0).drawCount := ⟨by decide, ⟨rfl, rfl, rfl, rfl⟩, rfl⟩

theorem test_meets_EqualInputsEqualFields :
    (demo 1 0).mayExecute ∧ sameInputs (demo 1 0) { demo 1 0 with drawCount := 1 } := ⟨by decide, ⟨rfl, rfl, rfl, rfl⟩⟩

theorem test_meets_ReservedBitsAreDraws : (demo 2 0).mayExecute ∧ (demo 1 0).mayExecute := by decide

theorem test_meets_EcxIgnoredWithoutSubfunction :
    (demo 1 0).mayExecute ∧ (demo 1 0).readReg .eax ∉ subfunctionFunctions ∧
      (demo 1 5).readReg .eax = (demo 1 0).readReg .eax ∧ (demo 1 5).cfg = (demo 1 0).cfg ∧
      (demo 1 5).env = (demo 1 0).env ∧ (demo 1 5).drawCount = (demo 1 0).drawCount :=
  ⟨by decide, by decide, by decide, rfl, rfl, rfl⟩

theorem test_meets_SecondCpuidRunsReturnedFunction : (demo 0 0).mayExecute ∧ (demo 0 0).readReg .eax = 0 := by decide

/-- The ends of every range of R54, R75 and R180, and the numbers beside them that are of no such range. -/
theorem test_meets_ReservedFunctionsReturnDraws :
    (([2, 4, 8, 0xA, 0xC, 0xE, 0x80000009, 0x8000000B, 0x80000018, 0x80000024] : List Word).all fun fn =>
        decide (demo fn 0).mayExecute && isReservedFunction ((demo fn 0).readReg .eax)) = true ∧
      (([0x40000000, 0x400000FF] : List Word).all fun fn => isHypervisorFunction ((demo fn 0).readReg .eax)) = true ∧
      (([0x11, 0x3FFFFFFF, 0x40000100, 0x7FFFFFFF, 0x80000027, 0xFFFFFFFF] : List Word).all fun fn =>
        isUndescribedFunction ((demo fn 0).readReg .eax)) = true ∧
      (([1, 5, 7, 0xB, 0xD, 0xF, 0x10, 0x80000008, 0x8000000A, 0x80000019, 0x80000023, 0x80000025, 0x80000026] :
        List Word).any fun fn => isReservedFunction fn || isHypervisorFunction fn || isUndescribedFunction fn) =
        false := by decide

/-- The ends of the two ranges above the largest numbers. -/
theorem test_meets_OutOfRangeFunctionsReturnDraws :
    (([0x11, 0x3FFFFFFF] : List Word).all fun fn =>
        decide ((demo fn 0).mayExecute ∧ (demo fn 0).readReg .eax < 0x40000000 ∧
          (demo fn 0).cfg.LFuncStd < (demo fn 0).readReg .eax)) = true ∧
      (([0x80000027, 0xFFFFFFFF] : List Word).all fun fn =>
        decide (0x80000000 ≤ (demo fn 0).readReg .eax ∧ (demo fn 0).cfg.LFuncExt < (demo fn 0).readReg .eax)) = true ∧
      (stateOf Cfg.minimal 1 0).cfg.LFuncStd < 1 ∧ (stateOf Cfg.minimal 0x80000001 0).cfg.LFuncExt < 0x80000001 := by
  decide

/-- Each closed gate. -/
theorem test_meets_ClosedGatesReturnDraws :
    (stateOf closedCfg 0xF 0).mayExecute ∧ closedCfg.Fn0000_0007_EBX_x0.PQM = 0 ∧
      closedCfg.Fn0000_0007_EBX_x0.PQE = 0 ∧ closedCfg.Fn8000_0001_ECX.SVM = 0 ∧
      closedCfg.Fn8000_0001_ECX.IBS = 0 ∧ closedCfg.Fn8000_0001_ECX.LWP = 0 ∧
      closedCfg.Fn8000_0001_ECX.TopologyExtensions = 0 ∧ closedCfg.Fn8000_0020_EBX_x0.L3MBE = 0 ∧
      closedCfg.Fn8000_0020_EBX_x0.L3SMBE = 0 ∧ closedCfg.Fn8000_0020_EBX_x0.BMEC = 0 ∧
      closedCfg.Fn8000_0020_EBX_x0.ABMC = 0 ∧
      (([0xF, 0x10, 0x8000000A, 0x8000001B, 0x8000001C, 0x8000001D, 0x8000001E] : List Word).all fun fn =>
        (stateOf closedCfg fn 0).readReg .eax == fn) = true ∧
      (([1, 2, 3, 5] : List Word).all fun sub =>
        (stateOf closedCfg 0x80000020 sub).readReg .eax == 0x80000020 &&
          (stateOf closedCfg 0x80000020 sub).readReg .ecx == sub) = true := by decide

/-- The ends of the subfunction ranges of functions 7, Fh, 10h, 8000_0020h and Dh. -/
theorem test_meets_OtherSubfunctionsReturnDraws :
    (([2, 0xFFFFFFFF] : List Word).all fun sub =>
        decide ((demo 7 sub).mayExecute ∧ (demo 7 sub).readReg .eax = 7 ∧ 2 ≤ (demo 7 sub).readReg .ecx)) = true ∧
      (stateOf { openCfg with Fn7_MaxSubFn := 0 } 7 1).readReg .ecx = 1 ∧
      (stateOf { openCfg with Fn7_MaxSubFn := 0 } 7 1).cfg.Fn7_MaxSubFn = 0 ∧
      (demo 0xF 2).readReg .eax = 0xF ∧ 2 ≤ (demo 0xF 2).readReg .ecx ∧ (demo 0x10 2).readReg .eax = 0x10 ∧
      2 ≤ (demo 0x10 2).readReg .ecx ∧
      (([4, 6, 0xFFFFFFFF] : List Word).all fun sub =>
        decide ((demo 0x80000020 sub).readReg .eax = 0x80000020 ∧
          ((demo 0x80000020 sub).readReg .ecx = 4 ∨ 6 ≤ (demo 0x80000020 sub).readReg .ecx))) = true ∧
      (([2, 9, 0x3E] : List Word).all fun sub =>
        decide ((stateOf { openCfg with FnD_Class := Vector.replicate 61 .undescribed } 0xD sub).readReg .eax = 0xD ∧
          2 ≤ sub ∧ sub ≤ 0x3E ∧
          ({ openCfg with FnD_Class := Vector.replicate 61 .undescribed } : Cfg).fnDClass sub = .undescribed)) =
        true := by decide

theorem test_meets_Function0000_0000 : (demo 0 0).mayExecute ∧ (demo 0 0).readReg .eax = 0 := by decide

/-- BaseFamily Fh and HTT 1, so that the conditional fields are there. -/
theorem test_meets_Function0000_0001Identity :
    standardCase (demo 1 0) 1 ∧ (demo 1 0).cfg.Fn0000_0001_EAX.BaseFamily = 0xF ∧
      (demo 1 0).cfg.Fn0000_0001_EDX.HTT = 1 := by decide

theorem test_meets_Function0000_0001Features : standardCase (demo 1 0) 1 := by decide

theorem test_meets_Functions0000_0005And0000_0006 : standardCase (demo 5 0) 5 ∧ standardCase (demo 6 0) 6 := by decide

theorem test_meets_Function0000_0007Features : standardCase (demo 7 0) 7 ∧ (demo 7 0).readReg .ecx = 0 := by decide

theorem test_meets_Function0000_0007Subfunctions :
    standardCase (demo 7 0) 7 ∧ (demo 7 0).readReg .ecx = 0 ∧ standardCase (demo 7 1) 7 ∧
      (demo 7 1).readReg .ecx = 1 ∧ 1 ≤ (demo 7 1).cfg.Fn7_MaxSubFn := by decide

/-- Level 0 of two, the first number past the last level, and the largest number. -/
theorem test_meets_Function0000_000B :
    standardCase (demo 0xB 0) 0xB ∧ (demo 0xB 0).readReg .ecx = 0 ∧ 1 ≤ (demo 0xB 0).cfg.FnB_Levels.val ∧
      standardCase (demo 0xB 2) 0xB ∧ (demo 0xB 2).cfg.FnB_Levels.val ≤ ((demo 0xB 2).readReg .ecx).toNat ∧
      (demo 0xB 0xFFFFFFFF).cfg.FnB_Levels.val ≤ ((demo 0xB 0xFFFFFFFF).readReg .ecx).toNat ∧
      (stateOf { openCfg with FnB_Levels := 0 } 0xB 0).cfg.FnB_Levels.val ≤
        ((stateOf { openCfg with FnB_Levels := 0 } 0xB 0).readReg .ecx).toNat := by decide

theorem test_meets_Function0000_000BCore :
    standardCase (demo 0xB 0) 0xB ∧ ((demo 0xB 0).readReg .ecx).toNat < (demo 0xB 0).cfg.FnB_Levels.val ∧
      standardCase (demo 0xB 1) 0xB ∧ ((demo 0xB 1).readReg .ecx).toNat < (demo 0xB 1).cfg.FnB_Levels.val ∧
      (demo 0xB 0).readReg .ecx = 0 ∧ (demo 0xB 1).readReg .ecx = 1 := by decide

theorem test_meets_Function0000_000DMasks :
    standardCase (demo 0xD 0) 0xD ∧ (demo 0xD 0).readReg .ecx = 0 ∧ standardCase (demo 0xD 1) 0xD ∧
      (demo 0xD 1).readReg .ecx = 1 := by decide

theorem test_meets_Function0000_000DSizes :
    standardCase (demo 0xD 0) 0xD ∧ (demo 0xD 0).cfg.wellFormed = true ∧ (demo 0xD 0).readReg .ecx = 0 ∧
      (demo 0xD 0).env.XCR0 = (demo 0xD 0).cfg.xFeatureSupportedMask ∧ (demo 0xD 1).readReg .ecx = 1 := by decide

/-- Each implemented component; the ends of the unimplemented ones and of the range above 3Eh. -/
theorem test_meets_Function0000_000DComponents :
    (([2, 0xB, 0xC, 0x3E] : List Word).all fun sub =>
        decide (standardCase (demo 0xD sub) 0xD ∧ (demo 0xD sub).readReg .ecx = sub ∧
          (demo 0xD sub).cfg.fnDClass sub = .implemented)) = true ∧
      (([2, 3, 0x3E] : List Word).all fun sub =>
        decide (standardCase (stateOf { openCfg with FnD_Class := Vector.replicate 61 .unimplemented } 0xD sub) 0xD ∧
          2 ≤ sub ∧ sub ≤ 0x3E ∧
          ({ openCfg with FnD_Class := Vector.replicate 61 .unimplemented } : Cfg).fnDClass sub = .unimplemented)) =
        true ∧
      (([0x3F, 0xFFFFFFFF] : List Word).all fun sub =>
        decide (standardCase (demo 0xD sub) 0xD ∧ 0x3E < (demo 0xD sub).readReg .ecx)) = true := by decide

theorem test_meets_Function0000_000F :
    standardCase (demo 0xF 0) 0xF ∧ (demo 0xF 0).cfg.Fn0000_0007_EBX_x0.PQM = 1 ∧ (demo 0xF 0).readReg .ecx = 0 ∧
      (demo 0xF 1).readReg .ecx = 1 ∧ (demo 0xF 1).cfg.Fn0000_000F_EAX_x1.CounterSize ≠ 0 := by decide

/-- The clause of `CounterSize = 0`. -/
theorem test_meets_Function0000_000F_noWidth :
    let s : State := { demo 0xF 1 with cfg := { (demo 0xF 1).cfg with Fn0000_000F_EAX_x1 := ⟨1, 0⟩ } }
    standardCase s 0xF ∧ s.cfg.Fn0000_0007_EBX_x0.PQM = 1 ∧ s.readReg .ecx = 1 ∧
      s.cfg.Fn0000_000F_EAX_x1.CounterSize = 0 := by decide

/-- The function number is here the largest supported one. -/
theorem test_meets_Function0000_0010 :
    standardCase (demo 0x10 0) 0x10 ∧ (demo 0x10 0).cfg.LFuncStd = 0x10 ∧
      (demo 0x10 0).cfg.Fn0000_0007_EBX_x0.PQE = 1 ∧ (demo 0x10 0).readReg .ecx = 0 ∧
      (demo 0x10 1).readReg .ecx = 1 := by decide

theorem test_meets_Function8000_0000 : extendedCase (demo 0x80000000 0) 0x80000000 := by decide

/-- BaseFamily Fh and Family 17h, so that the conditional fields are there. -/
theorem test_meets_Function8000_0001 :
    extendedCase (demo 0x80000001 0) 0x80000001 ∧ (demo 0x80000001 0).cfg.Fn0000_0001_EAX.BaseFamily = 0xF ∧
      0x10 ≤ familyOf (demo 0x80000001 0).cfg.Fn0000_0001_EAX := by decide

theorem test_meets_Function8000_0001Edx : extendedCase (demo 0x80000001 0) 0x80000001 := by decide

theorem test_meets_MirroredBitsAgree :
    standardCase (demo 1 0) 1 ∧ (demo 1 0).cfg.wellFormed = true ∧ (demo 0x80000001 0).cfg = (demo 1 0).cfg ∧
      (demo 0x80000001 0).env = (demo 1 0).env ∧ (demo 0x80000001 0).readReg .eax = 0x80000001 ∧
      0x80000001 ≤ (demo 1 0).cfg.LFuncExt := ⟨by decide, by decide, rfl, rfl, by decide, by decide⟩

theorem test_meets_NameStringFunctions :
    (([0x80000002, 0x80000003, 0x80000004] : List Word).all fun fn =>
      decide ((demo fn 0).mayExecute ∧ 0x80000002 ≤ (demo fn 0).readReg .eax ∧
        (demo fn 0).readReg .eax ≤ 0x80000004 ∧ (demo fn 0).readReg .eax ≤ (demo fn 0).cfg.LFuncExt)) = true := by
  decide

/-- Both size fields are even, as the clauses about halves ask. -/
theorem test_meets_Function8000_0005 :
    extendedCase (demo 0x80000005 0) 0x80000005 ∧
      (demo 0x80000005 0).cfg.Fn8000_0005_EAX.L1DTlb2and4MSize.toNat = 2 * 32 ∧
      (demo 0x80000005 0).cfg.Fn8000_0005_EAX.L1ITlb2and4MSize.toNat = 2 * 32 := by decide

/-- Both size fields are even, as the clauses about halves ask, no TLB is disabled, and the bit
`L2TlbSizeX32` is 0. -/
theorem test_meets_Function8000_0006 :
    extendedCase (demo 0x80000006 0) 0x80000006 ∧
      (demo 0x80000006 0).cfg.Fn8000_0006_EAX.L2DTlb2and4MSize.toNat = 2 * 512 ∧
      (demo 0x80000006 0).cfg.Fn8000_0006_EAX.L2ITlb2and4MSize.toNat = 2 * 256 ∧
      l2Associativity (demo 0x80000006 0).cfg.Fn8000_0006_EAX.L2DTlb2and4MAssoc ≠ .disabled ∧
      l2Associativity (demo 0x80000006 0).cfg.Fn8000_0006_EAX.L2ITlb2and4MAssoc ≠ .disabled ∧
      (demo 0x80000006 0).cfg.Fn8000_0021_EAX.L2TlbSizeX32 = 0 := by decide

theorem test_meets_Function8000_0007 : extendedCase (demo 0x80000007 0) 0x80000007 := by decide

theorem test_meets_Function8000_0008 : extendedCase (demo 0x80000008 0) 0x80000008 := by decide

theorem test_meets_Function8000_000A :
    extendedCase (demo 0x8000000A 0) 0x8000000A ∧ (demo 0x8000000A 0).cfg.Fn8000_0001_ECX.SVM = 1 := by decide

theorem test_meets_Functions8000_0019To8000_001B :
    extendedCase (demo 0x80000019 0) 0x80000019 ∧ extendedCase (demo 0x8000001A 0) 0x8000001A ∧
      extendedCase (demo 0x8000001B 0) 0x8000001B ∧ (demo 0x8000001B 0).cfg.Fn8000_0001_ECX.IBS = 1 := by decide

theorem test_meets_Function8000_001C :
    extendedCase (demo 0x8000001C 0) 0x8000001C ∧ (demo 0x8000001C 0).cfg.Fn8000_0001_ECX.LWP = 1 := by decide

/-- Cache 0, set associative and shared by 2 = 2^1 processors; and cache 3, the last. -/
theorem test_meets_Function8000_001DCache :
    extendedCase (demo 0x8000001D 0) 0x8000001D ∧ (demo 0x8000001D 0).cfg.Fn8000_0001_ECX.TopologyExtensions = 1 ∧
      (demo 0x8000001D 0).cfg.Fn8000_001D_x[((demo 0x8000001D 0).readReg .ecx).toNat]? = caches[0]? ∧
      (demo 0x8000001D 3).cfg.Fn8000_001D_x[((demo 0x8000001D 3).readReg .ecx).toNat]? = caches[3]? ∧
      (caches.map fun c => (c.EAX.FullyAssociative, cacheSharers c)) = [(0, 2), (1, 1), (0, 1), (0, 16)] ∧
      2 ≤ 2 ^ 1 ∧ ∀ j, j < 1 → 2 ^ j < 2 := by decide

/-- The first number past the last cache, and the largest number. -/
theorem test_meets_Function8000_001DNull :
    (([4, 0xFFFFFFFF] : List Word).all fun sub =>
      decide (extendedCase (demo 0x8000001D sub) 0x8000001D ∧
        (demo 0x8000001D sub).cfg.Fn8000_0001_ECX.TopologyExtensions = 1 ∧
        (demo 0x8000001D sub).cfg.NumCaches ≤ ((demo 0x8000001D sub).readReg .ecx).toNat)) = true := by decide

/-- ApicEn 1, two threads per unit. -/
theorem test_meets_Function8000_001E :
    extendedCase (demo 0x8000001E 0) 0x8000001E ∧ (demo 0x8000001E 0).cfg.Fn8000_0001_ECX.TopologyExtensions = 1 ∧
      (demo 0x8000001E 0).env.ApicEn = 1 ∧ threadsPerUnit (demo 0x8000001E 0).cfg.Fn8000_001E_EBX = 2 ^ 1 := by decide

theorem test_meets_Function8000_001F : extendedCase (demo 0x8000001F 0) 0x8000001F := by decide

/-- Each subfunction with its gate. -/
theorem test_meets_Function8000_0020 :
    (([0, 1, 2, 3, 5] : List Word).all fun sub =>
      decide (extendedCase (demo 0x80000020 sub) 0x80000020 ∧ (demo 0x80000020 sub).readReg .ecx = sub)) = true ∧
      openCfg.Fn8000_0020_EBX_x0.L3MBE = 1 ∧ openCfg.Fn8000_0020_EBX_x0.L3SMBE = 1 ∧
      openCfg.Fn8000_0020_EBX_x0.BMEC = 1 ∧ openCfg.Fn8000_0020_EBX_x0.ABMC = 1 ∧
      openCfg.Fn8000_0020_EAX_x5.CounterSize ≠ 0 := by decide

/-- MicrocodePatchSize not 0, and 0. -/
theorem test_meets_Function8000_0021 :
    extendedCase (demo 0x80000021 0) 0x80000021 ∧ (demo 0x80000021 0).cfg.Fn8000_0021_EBX.MicrocodePatchSize ≠ 0 ∧
      extendedCase (stateOf { openCfg with Fn8000_0021_EBX := default } 0x80000021 0) 0x80000021 ∧
      ({ openCfg with Fn8000_0021_EBX := default } : Cfg).Fn8000_0021_EBX.MicrocodePatchSize = 0 := by decide

theorem test_meets_Functions8000_0022To8000_0025 :
    extendedCase (demo 0x80000022 0) 0x80000022 ∧ extendedCase (demo 0x80000023 0) 0x80000023 ∧
      extendedCase (demo 0x80000025 0) 0x80000025 := by decide

/-- At each of the two functions, with the bit `L2TlbSizeX32` 0 and 1; the size fields of EAX are even. -/
theorem test_meets_L2TlbEntryCounts :
    let scaled : Cfg := { openCfg with Fn8000_0021_EAX := { openCfg.Fn8000_0021_EAX with L2TlbSizeX32 := 1 } }
    (([0x80000006, 0x80000019] : List Word).all fun fn =>
      decide (extendedCase (demo fn 0) fn ∧ (demo fn 0).cfg.Fn8000_0021_EAX.L2TlbSizeX32 = 0 ∧
        extendedCase (stateOf scaled fn 0) fn ∧ scaled.Fn8000_0021_EAX.L2TlbSizeX32 = 1)) = true ∧
      openCfg.Fn8000_0006_EAX.L2DTlb2and4MSize.toNat = 2 * 512 ∧
      openCfg.Fn8000_0006_EAX.L2ITlb2and4MSize.toNat = 2 * 256 := by decide

/-- Level 0, of type Core, and level 3, the last. The function number is the largest supported one. -/
theorem test_meets_Function8000_0026Level :
    extendedCase (demo 0x80000026 0) 0x80000026 ∧
      (demo 0x80000026 0).cfg.Fn8000_0026_x[((demo 0x80000026 0).readReg .ecx).toNat]? = levels[0]? ∧
      (demo 0x80000026 3).cfg.Fn8000_0026_x[((demo 0x80000026 3).readReg .ecx).toNat]? = levels[3]? ∧
      (levels.map fun l => l.ECX.LevelType) = [1, 2, 3, 4] := by decide

/-- A symmetric level of type Core, with EAX[31:29] zero, and one of which each of the three bits is set. -/
theorem test_level_uniform :
    levelUniform 0x1FFFFFFF = true ∧ levelUniform 0x20000000 = false ∧ levelUniform 0x40000000 = false ∧
      levelUniform 0x80000000 = false := by decide

/-- The first and the last level, the first number past the last, and the largest number. -/
theorem test_meets_Function8000_0026Identifier :
    (([0, 3] : List Word).all fun sub =>
        decide (extendedCase (demo 0x80000026 sub) 0x80000026 ∧
          ((demo 0x80000026 sub).readReg .ecx).toNat < (demo 0x80000026 sub).cfg.NumTopoLevels)) = true ∧
      (([4, 0xFFFFFFFF] : List Word).all fun sub =>
        decide (extendedCase (demo 0x80000026 sub) 0x80000026 ∧
          (demo 0x80000026 sub).cfg.NumTopoLevels ≤ ((demo 0x80000026 sub).readReg .ecx).toNat)) = true := by decide

/-- At pc 1000h, and at the top of the address space. -/
theorem test_meets_StepRunsDecodedInstruction :
    decode [0x0F, 0xA2] = .ok (.cpuid, []) ∧ Instr.wellFormed .cpuid = true ∧ (demo 0 0).textIsCpuid ∧
      (demo 0 0).pcFits = true ∧
      ({ demo 0 0 with pc := 0xFFFFFFFF, mem := [(0, 0xA2), (0xFFFFFFFF, 0x0F)] } : State).textIsCpuid ∧
      ({ demo 0 0 with pc := 0xFFFFFFFF, mem := [(0, 0xA2), (0xFFFFFFFF, 0x0F)] } : State).pcFits = true :=
  ⟨rfl, rfl, by decide, by decide, by decide, by decide⟩

/-- No byte, one byte, a prefix, and another instruction at pc. -/
theorem test_meets_StepRefusesByName :
    Memory.read [] ((demo 0 0).fetchAddress 0) = none ∧
      Memory.read [(0x1000, 0x0F)] ((demo 0 0).fetchAddress 0) = some 0x0F ∧
      Memory.read [(0x1000, 0x0F)] ((demo 0 0).fetchAddress 1) = none ∧
      (([0x26, 0x2E, 0x36, 0x3E, 0x40, 0x4F, 0x64, 0x65, 0x66, 0x67, 0xF0, 0xF2, 0xF3] : List Byte).all isPrefixByte) =
        true ∧
      (([0x0F, 0x3F, 0x50, 0x90, 0xF1] : List Byte).any isPrefixByte) = false ∧
      step { demo 0 0 with mem := [(0x1000, 0x90), (0x1001, 0xA2)] } = .refused (.notCpuid 0x90 0xA2) ∧
      step { demo 0 0 with mem := [(0x1000, 0x0F)] } = .refused (.textAbsent 0x1001) :=
  ⟨by decide, by decide, by decide, by decide, by decide, rfl, rfl⟩

/-- Both sides of the equivalence. -/
theorem test_meets_DecodeEncodeAgree :
    decode [0x0F, 0xA2, 0x0F, 0xA2] = .ok (.cpuid, [0x0F, 0xA2]) ∧
      [0x0F, 0xA2, 0x0F, 0xA2] = encode .cpuid ++ [0x0F, 0xA2] := ⟨rfl, rfl⟩

theorem test_meets_StepKeepsInvariant : (demo 0 0).Inv ∧ step (demo 0 0) = .next (demo 0 0).afterCpuid :=
  ⟨⟨by decide, by decide, by decide, by decide⟩, rfl⟩

theorem test_meets_CacheEnumerationFindsAllCaches :
    (demo 0 0).mayExecute ∧ (demo 0 0).cfg.wellFormed = true ∧
      (demo 0 0).cfg.Fn8000_0001_ECX.TopologyExtensions = 1 ∧ 0x8000001D ≤ (demo 0 0).cfg.LFuncExt ∧
      (demo 0 0).cfg.NumCaches = 4 ∧ (demo 0 0).cfg.NumCaches < 2 ^ 32 := by decide

theorem test_meets_LevelEnumerationsStop :
    (demo 0 0).mayExecute ∧ (demo 0 0).cfg.wellFormed = true ∧ 0x80000026 ≤ (demo 0 0).cfg.LFuncExt ∧
      (demo 0 0).cfg.NumTopoLevels = 4 ∧ (demo 0 0).cfg.NumTopoLevels < 2 ^ 32 ∧
      0xB ≤ (demo 0 0).cfg.LFuncStd := by decide

/-- The first and the last byte of a word, and an address beside it. -/
theorem test_meets_MemoryStoresWords :
    (0 < 4 ∧ 3 < 4) ∧ ∀ k, k < 4 → 0x2004 ≠ ((0x2000 : Quadword) + BitVec.ofNat 64 k).toNat := by decide

/-- NC below FFh, and FFh. -/
theorem test_meets_PackageCounts :
    openCfg.wellFormed = true ∧ openCfg.Fn8000_0008_ECX.NC ≠ 0xFF ∧
      ({ openCfg with Fn8000_0008_ECX := { NC := 0xFF } } : Cfg).wellFormed = true := by decide

end Sys2Proof.Tests
end

