-- ==== Sys2Proof/Proofs/StdFn.lean ====
section
/-! Standard functions 0h, 1h, 5h, 6h and 7h return the fields of their entries (41_std_fn0_to_fn7.md).

The fields of an entry are a list, and a statement about a function is that list read as a conjunction. So the fields
are shown once for any entry of a good shape (`exec_standard_showsFields`), and each statement reads off its own list
with the lemmas on `Register.shownBy`. -/

namespace Sys2Proof.Machine

/-! ## The fields a word and a state show -/

/-- Each field of the register stands at its bits in `v`, whatever the other bits are. -/
def Register.shownBy (fs : Register) (v : Word) : Prop := ∀ f ∈ fs, bitsOf v f.hi f.lo = f.val

section
variable {fs gs : Register} {v : Word} {hi lo : Nat} {x : BitVec (hi - lo + 1)} {c : Bool}

@[simp] theorem Register.shownBy_nil : Register.shownBy [] v ↔ True := by simp [Register.shownBy]

@[simp] theorem Register.shownBy_cons :
    Register.shownBy (⟨hi, lo, x⟩ :: fs) v ↔ bitsOf v hi lo = x ∧ Register.shownBy fs v := List.forall_mem_cons

@[simp] theorem Register.shownBy_append :
    Register.shownBy (fs ++ gs) v ↔ Register.shownBy fs v ∧ Register.shownBy gs v := List.forall_mem_append

/-- A field of kind `cond` stands at its bits when its condition holds (R79). -/
@[simp] theorem Register.shownBy_onlyIf :
    Register.shownBy (Field.onlyIf c ⟨hi, lo, x⟩) v ↔ (c = true → bitsOf v hi lo = x) := by
  cases c <;> simp [Field.onlyIf]

/-- A filled register shows its fields, whatever the draw. -/
theorem Register.shownBy_fill (draw : Word) (h : Register.shapeOk fs = true) :
    Register.shownBy fs (Register.fill fs draw) :=
  Register.extract_fill fs draw h

end

/-- The four registers of an entry have the shape of `Register.shapeOk`. -/
structure Entry.ShapeOk (e : Entry) : Prop where
  eax : Register.shapeOk e.eax = true
  ebx : Register.shapeOk e.ebx = true
  ecx : Register.shapeOk e.ecx = true
  edx : Register.shapeOk e.edx = true

/-- The return registers of the state show the fields of the entry. -/
structure State.ShowsFields (t : State) (e : Entry) : Prop where
  eax : Register.shownBy e.eax (t.readReg .eax)
  ebx : Register.shownBy e.ebx (t.readReg .ebx)
  ecx : Register.shownBy e.ecx (t.readReg .ecx)
  edx : Register.shownBy e.edx (t.readReg .edx)

variable {s : State}

/-- A state that holds a filled entry shows the entry's fields. -/
theorem showsFields_of_holds {t : State} {e : Entry} {d : Regs4} (he : e.ShapeOk) (h : t.holds (e.fill d)) :
    t.ShowsFields e := by
  obtain ⟨ha, hb, hc, hd⟩ := h
  exact
    { eax := ha ▸ Register.shownBy_fill d.eax he.eax
      ebx := hb ▸ Register.shownBy_fill d.ebx he.ebx
      ecx := hc ▸ Register.shownBy_fill d.ecx he.ecx
      edx := hd ▸ Register.shownBy_fill d.edx he.edx }

/-- CPUID at a standard function in range, its gate open, completes and shows the fields of the function's entry. -/
theorem exec_standard_showsFields {fn : Word} {e : Entry} (hx : s.mayExecute) (hfn : s.readReg .eax = fn)
    (hs : fn < 0x40000000) (hr : fn ≤ s.cfg.LFuncStd) (hg : gateOpen s.cfg fn = true)
    (hok : e.ShapeOk) (he : standardEntry s.cfg s.env fn (s.readReg .ecx) = e) :
    ∃ t, exec .cpuid s = .next t ∧ t.ShowsFields e := by
  refine ⟨s.afterCpuid, exec_of_mayExecute hx, showsFields_of_holds (d := s.draws4) hok ?_⟩
  rw [← he, ← cpuidResult_standard hfn hs hr hg]
  exact holds_afterCpuid s

/-! ## The shapes of the entries -/

section
variable (cfg : Cfg) (env : Env) (sub : Word)

theorem shapeOk_fn0000_0001_EAX : Register.shapeOk (fn0000_0001_EAX cfg env sub) = true := by
  unfold fn0000_0001_EAX
  generalize (cfg.Fn0000_0001_EAX.BaseFamily == 0xF) = extended
  cases extended <;> rfl

theorem shapeOk_fn0000_0001_EBX : Register.shapeOk (fn0000_0001_EBX cfg env sub) = true := by
  unfold fn0000_0001_EBX
  generalize (cfg.Fn0000_0001_EDX.HTT == 1) = threaded
  cases threaded <;> rfl

theorem shapeOk_leaf0000_0001 : (leaf0000_0001 cfg env sub).ShapeOk :=
  ⟨shapeOk_fn0000_0001_EAX cfg env sub, shapeOk_fn0000_0001_EBX cfg env sub, rfl, rfl⟩

theorem shapeOk_leaf0000_0005 : (leaf0000_0005 cfg env sub).ShapeOk := ⟨rfl, rfl, rfl, rfl⟩

theorem shapeOk_leaf0000_0006 : (leaf0000_0006 cfg env sub).ShapeOk := ⟨rfl, rfl, rfl, rfl⟩

theorem shapeOk_leaf0000_0007_x0 : (leaf0000_0007_x0 cfg env sub).ShapeOk := ⟨rfl, rfl, rfl, rfl⟩

end

/-! ## Function 0h -/

/-- The four values of function 0, all 32 bits of each defined (R100, R101). -/
theorem cpuidResult_leaf0000_0000 (h : s.readReg .eax = 0x00000000) :
    s.cpuidResult = ⟨s.cfg.LFuncStd, 0x68747541, 0x444D4163, 0x69746E65⟩ :=
  calc s.cpuidResult
    _ = (leaf0000_0000 s.cfg s.env (s.readReg .ecx)).fill s.draws4 :=
      cpuidResult_standard h (by decide) (by bv_omega) rfl
    _ = ⟨s.cfg.LFuncStd, 0x68747541, 0x444D4163, 0x69746E65⟩ := by
      simp only [Entry.fill, leaf0000_0000, fn0000_0000_EAX, fn0000_0000_EBX, fn0000_0000_ECX, fn0000_0000_EDX,
        Register.fill_whole]

/-- Settles O13: function 0 has no range premise, as no LFuncStd is below 0, and its four values are fixed but for
LFuncStd. -/
theorem function0000_0000 : Obligations.Function0000_0000 := by
  intro s hx hfn
  have hr := cpuidResult_leaf0000_0000 hfn
  obtain ⟨ha, hb, hc, hd⟩ := hr ▸ holds_afterCpuid s
  refine ⟨s.afterCpuid, exec_of_mayExecute hx, ha, hb, hc, hd, ?_⟩
  rw [results_afterCpuid, hr, vendorString_constants]

/-! ## Function 1h -/

/-- Software computes the Family of a record from its fields in EAX; ExtFamily counts only where it is valid (R104). -/
theorem familyFromEax_eq_familyOf {eax : Word} {r : Record.Fn0000_0001_EAX} (hb : bitsOf eax 11 8 = r.BaseFamily)
    (he : r.BaseFamily = 0xF → bitsOf eax 27 20 = r.ExtFamily) : familyFromEax eax = familyOf r := by
  unfold familyFromEax familyOf
  rw [hb]
  split
  next hF => rw [he hF]; rfl
  next => rfl

/-- Software computes the Model of a record from its fields in EAX; ExtModel counts only where it is valid (R104). -/
theorem modelFromEax_eq_modelOf {eax : Word} {r : Record.Fn0000_0001_EAX} (hb : bitsOf eax 11 8 = r.BaseFamily)
    (hm : bitsOf eax 7 4 = r.BaseModel) (he : r.BaseFamily = 0xF → bitsOf eax 19 16 = r.ExtModel) :
    modelFromEax eax = modelOf r := by
  unfold modelFromEax modelOf
  rw [hb, hm]
  split
  next hF => rw [he hF]
  next => rfl

/-- Settles O14: the fields of EAX and EBX are those of the entry, and Family, Model and the CLFLUSH size are computed
from them. -/
theorem function0000_0001Identity : Obligations.Function0000_0001Identity := by
  intro s hx hfn hr
  obtain ⟨t, ht, hshow⟩ := exec_standard_showsFields hx hfn (by decide) hr rfl (shapeOk_leaf0000_0001 ..) rfl
  have ha := hshow.eax
  have hb := hshow.ebx
  simp only [leaf0000_0001, fn0000_0001_EAX, fn0000_0001_EBX, Register.shownBy_append, Register.shownBy_onlyIf,
    Register.shownBy_cons, Register.shownBy_nil, beq_iff_eq, and_true] at ha hb
  obtain ⟨⟨hExtFamily, hExtModel⟩, hBaseFamily, hBaseModel, hStepping⟩ := ha
  obtain ⟨⟨hLocalApicId, hCount⟩, hCLFlush, hBrandId⟩ := hb
  exact ⟨t, ht, hExtFamily, hExtModel, hBaseFamily, hBaseModel, hStepping, hLocalApicId, hCount, hCLFlush, hBrandId,
    familyFromEax_eq_familyOf hBaseFamily hExtFamily, modelFromEax_eq_modelOf hBaseFamily hBaseModel hExtModel,
    by rw [hCLFlush]; rfl⟩

/-! ## Functions 5h and 6h -/

/-- Settles O16: the fields of each function's entry, read off one by one. -/
theorem functions0000_0005And0000_0006 : Obligations.Functions0000_0005And0000_0006 := by
  intro s hx
  constructor
  · intro hfn hr
    obtain ⟨t, ht, hshow⟩ := exec_standard_showsFields hx hfn (by decide) hr rfl (shapeOk_leaf0000_0005 ..) rfl
    have ha := hshow.eax
    have hb := hshow.ebx
    have hc := hshow.ecx
    simp only [leaf0000_0005, fn0000_0005_EAX, fn0000_0005_EBX, fn0000_0005_ECX, Register.shownBy_cons,
      Register.shownBy_nil, and_true] at ha hb hc
    exact ⟨t, ht, ha, hb, hc⟩
  · intro hfn hr
    obtain ⟨t, ht, hshow⟩ := exec_standard_showsFields hx hfn (by decide) hr rfl (shapeOk_leaf0000_0006 ..) rfl
    have ha := hshow.eax
    have hc := hshow.ecx
    simp only [leaf0000_0006, fn0000_0006_EAX, fn0000_0006_ECX, Register.shownBy_cons, Register.shownBy_nil,
      and_true] at ha hc
    exact ⟨t, ht, ha, hc⟩

/-! ## Function 7h -/

/-- Subfunction 0 selects the first entry of function 7 (R123). -/
theorem standardEntry_0000_0007_x0 (cfg : Cfg) (env : Env) :
    standardEntry cfg env 0x00000007 0 = leaf0000_0007_x0 cfg env 0 := rfl

/-- Settles O17: the fields of EBX, then those of ECX, in the order of the entry's lists. -/
theorem function0000_0007Features : Obligations.Function0000_0007Features := by
  intro s hx hfn hsub hr
  have he : standardEntry s.cfg s.env 0x00000007 (s.readReg .ecx) = leaf0000_0007_x0 s.cfg s.env 0 := by
    rw [hsub, standardEntry_0000_0007_x0]
  obtain ⟨t, ht, hshow⟩ := exec_standard_showsFields hx hfn (by decide) hr rfl (shapeOk_leaf0000_0007_x0 ..) he
  refine ⟨t, ht, ?_⟩
  have hbc := And.intro hshow.ebx hshow.ecx
  simpa only [leaf0000_0007_x0, fn0000_0007_EBX_x0, fn0000_0007_ECX_x0, Register.shownBy_cons, Register.shownBy_nil,
    and_true, and_assoc] using hbc

end Sys2Proof.Machine
end

