-- ==== Sys2Proof/Proofs/StdFnB.lean ====
section
/-! Standard functions Bh and Dh return the fields of the entry that ECX selects (42_std_fnB_to_fn10.md).

Each function has one selection law for every class of ECX, and every entry it can select has a good shape. So one
execution shows the fields of the function's entry at the input ECX, and each clause of a statement rewrites that entry
by the selection law of its own ECX. -/

namespace Sys2Proof.Machine

/-! ## Registers that are one field -/

/-- The bits 31:0 of a register are the register. -/
@[simp] theorem bitsOf_whole (v : Word) : bitsOf v 31 0 = v := BitVec.extractLsb'_eq_self

/-- A register that is one field of 32 bits shows exactly that field. -/
theorem Register.shownBy_whole {x v : Word} : Register.shownBy [⟨31, 0, x⟩] v ↔ v = x := by
  rw [Register.shownBy_cons, bitsOf_whole, and_iff_left (Register.shownBy_nil.mpr trivial)]

/-- A register promised to be zero shows that it is zero. -/
theorem Register.shownBy_zeroRegister {v : Word} : Register.shownBy zeroRegister v ↔ v = 0 := Register.shownBy_whole

/-- ECX of the two CET components: the bit U/S set, the rest 0 (R163, R164). -/
theorem shownBy_cetEcx {v : Word} :
    Register.shownBy [⟨31, 1, 0⟩, ⟨0, 0, 1⟩] v ↔ bitsOf v 31 1 = 0 ∧ bitsOf v 0 0 = 1 := by
  simp only [Register.shownBy_cons, Register.shownBy_nil, and_true]

section
variable {cfg : Cfg} {env : Env} {sub : Word}

/-! ## Function Bh: what ECX selects -/

/-- Level 0 of an implemented hierarchy is the thread level (R142). -/
theorem leaf0000_000B_of_thread (h : 1 ≤ cfg.FnB_Levels) : leaf0000_000B cfg env 0 = leaf0000_000B_x0 cfg env 0 :=
  if_pos ⟨rfl, h⟩

/-- A level number that is not below the number of levels selects the unimplemented level (R148). -/
theorem leaf0000_000B_of_unimplemented (h : cfg.FnB_Levels.val ≤ sub.toNat) :
    leaf0000_000B cfg env sub = leaf0000_000B_unimplemented := by
  have not_thread : ¬(sub = 0 ∧ 1 ≤ cfg.FnB_Levels) := by
    rintro ⟨rfl, h1⟩
    exact absurd (Nat.le_trans (Fin.le_def.mp h1) h) (by decide)
  have not_core : ¬(sub = 1 ∧ 2 ≤ cfg.FnB_Levels) := by
    rintro ⟨rfl, h2⟩
    exact absurd (Nat.le_trans (Fin.le_def.mp h2) h) (by decide)
  rw [leaf0000_000B, if_neg not_thread, if_neg not_core]

/-- Whatever level ECX selects, the entry has a good shape. -/
theorem shapeOk_leaf0000_000B (cfg : Cfg) (env : Env) (sub : Word) : (leaf0000_000B cfg env sub).ShapeOk := by
  unfold leaf0000_000B
  split_ifs <;> exact ⟨rfl, rfl, rfl, rfl⟩

/-! ## Function Dh: what ECX selects -/

/-- Subfunction 0 selects the masks and sizes (R149). -/
theorem leaf0000_000D_sub0 : leaf0000_000D cfg env 0 = leaf0000_000D_x0 cfg env 0 := rfl

/-- Subfunction 1 selects the features and the compact size (R149). -/
theorem leaf0000_000D_sub1 : leaf0000_000D cfg env 1 = leaf0000_000D_x1 cfg env 1 := rfl

/-- Every subfunction above 3Eh selects the zeros (R168). -/
theorem leaf0000_000D_of_above (h : 0x3E < sub) : leaf0000_000D cfg env sub = leaf0000_000D_zero := by
  have h0 : sub ≠ 0 := by bv_omega
  have h1 : sub ≠ 1 := by bv_omega
  rw [leaf0000_000D, if_neg h0, if_neg h1, if_pos h]

/-- The subfunctions from 2 to 3Eh are none of those that `leaf0000_000D` serves without looking at a class. -/
theorem component_subfunction (h2 : 2 ≤ sub) (h3E : sub ≤ 0x3E) : sub ≠ 0 ∧ sub ≠ 1 ∧ ¬ 0x3E < sub :=
  ⟨by bv_omega, by bv_omega, BitVec.not_lt.mpr h3E⟩

/-- An unimplemented component selects the zeros (R151). -/
theorem leaf0000_000D_of_unimplemented (h2 : 2 ≤ sub) (h3E : sub ≤ 0x3E) (hc : cfg.fnDClass sub = .unimplemented) :
    leaf0000_000D cfg env sub = leaf0000_000D_zero := by
  obtain ⟨h0, h1, hle⟩ := component_subfunction h2 h3E
  rw [leaf0000_000D, if_neg h0, if_neg h1, if_neg hle, hc]

/-- An implemented component selects its own entry (R149). -/
theorem leaf0000_000D_of_implemented (h2 : 2 ≤ sub) (h3E : sub ≤ 0x3E) (hc : cfg.fnDClass sub = .implemented) :
    leaf0000_000D cfg env sub = leaf0000_000D_implemented cfg env sub := by
  obtain ⟨h0, h1, hle⟩ := component_subfunction h2 h3E
  rw [leaf0000_000D, if_neg h0, if_neg h1, if_neg hle, hc]

/-- Whatever implemented subfunction ECX selects, the entry has a good shape. -/
theorem shapeOk_leaf0000_000D_implemented (cfg : Cfg) (env : Env) (sub : Word) :
    (leaf0000_000D_implemented cfg env sub).ShapeOk := by
  unfold leaf0000_000D_implemented
  split_ifs <;> exact ⟨rfl, rfl, rfl, rfl⟩

/-- Whatever subfunction ECX selects, the entry has a good shape. -/
theorem shapeOk_leaf0000_000D (cfg : Cfg) (env : Env) (sub : Word) : (leaf0000_000D cfg env sub).ShapeOk := by
  unfold leaf0000_000D
  split_ifs
  · exact ⟨rfl, rfl, rfl, rfl⟩
  · exact ⟨rfl, rfl, rfl, rfl⟩
  · exact ⟨rfl, rfl, rfl, rfl⟩
  · cases cfg.fnDClass sub
    case unimplemented => exact ⟨rfl, rfl, rfl, rfl⟩
    case implemented => exact shapeOk_leaf0000_000D_implemented cfg env sub
    case undescribed => exact ⟨rfl, rfl, rfl, rfl⟩

end

/-! ## The executions -/

section
variable {s : State}

/-- CPUID at function Bh in range shows the fields of the level that ECX selects. -/
theorem exec_0000_000B_showsFields (hx : s.mayExecute) (hfn : s.readReg .eax = 0x0000000B)
    (hr : 0x0000000B ≤ s.cfg.LFuncStd) :
    ∃ t, exec .cpuid s = .next t ∧ t.ShowsFields (leaf0000_000B s.cfg s.env (s.readReg .ecx)) :=
  exec_standard_showsFields hx hfn (by decide) hr rfl (shapeOk_leaf0000_000B ..) rfl

/-- CPUID at function Dh in range shows the fields of the subfunction that ECX selects. -/
theorem exec_0000_000D_showsFields (hx : s.mayExecute) (hfn : s.readReg .eax = 0x0000000D)
    (hr : 0x0000000D ≤ s.cfg.LFuncStd) :
    ∃ t, exec .cpuid s = .next t ∧ t.ShowsFields (leaf0000_000D s.cfg s.env (s.readReg .ecx)) :=
  exec_standard_showsFields hx hfn (by decide) hr rfl (shapeOk_leaf0000_000D ..) rfl

/-- A state that shows the zeros of function Dh holds 0 in all four registers (R151, R168). -/
theorem holds_of_showsFields_zero {t : State} (h : t.ShowsFields leaf0000_000D_zero) : t.holds ⟨0, 0, 0, 0⟩ :=
  ⟨Register.shownBy_zeroRegister.mp h.eax, Register.shownBy_zeroRegister.mp h.ebx,
    Register.shownBy_zeroRegister.mp h.ecx, Register.shownBy_zeroRegister.mp h.edx⟩

end

/-! ## Function Bh -/

/-- Settles O19: ECX selects the thread level or the unimplemented one. -/
theorem function0000_000B : Obligations.Function0000_000B := by
  intro s hx hfn hr
  obtain ⟨t, ht, hshow⟩ := exec_0000_000B_showsFields hx hfn hr
  refine ⟨t, ht, fun hsub hlevel => ?thread, fun hlevel => ?unimplemented⟩
  case thread =>
    rw [hsub, leaf0000_000B_of_thread hlevel] at hshow
    obtain ⟨ha, hb, hc, -⟩ := hshow
    simp only [leaf0000_000B_x0, fn0000_000B_EAX_x0, fn0000_000B_EBX_x0, fn0000_000B_ECX_x0, Register.shownBy_cons,
      Register.shownBy_nil, and_true] at ha hb hc
    exact ⟨ha, hb, hsub ▸ hc⟩
  case unimplemented =>
    rw [leaf0000_000B_of_unimplemented hlevel] at hshow
    exact Register.shownBy_zeroRegister.mp hshow.eax

/-! ## Function Dh -/

/-- Settles O21: the fields of subfunctions 0 and 1, read off their entries. -/
theorem function0000_000DMasks : Obligations.Function0000_000DMasks := by
  intro s hx hfn hr
  obtain ⟨t, ht, hshow⟩ := exec_0000_000D_showsFields hx hfn hr
  refine ⟨t, ht, fun hsub => ?masks, fun hsub => ?features⟩
  case masks =>
    rw [hsub, leaf0000_000D_sub0] at hshow
    exact ⟨Register.shownBy_whole.mp hshow.eax, Register.shownBy_whole.mp hshow.ecx,
      Register.shownBy_whole.mp hshow.edx⟩
  case features =>
    rw [hsub, leaf0000_000D_sub1] at hshow
    have hac := And.intro hshow.eax hshow.ecx
    simpa only [leaf0000_000D_x1, fn0000_000D_EAX_x1, fn0000_000D_ECX_x1, Register.shownBy_cons, Register.shownBy_nil,
      and_true, and_assoc] using hac

/-- Settles O23: an implemented component shows the fields of its own entry; the zeros come from the class or from the
range of ECX. -/
theorem function0000_000DComponents : Obligations.Function0000_000DComponents := by
  intro s hx hfn hr
  obtain ⟨t, ht, hshow⟩ := exec_0000_000D_showsFields hx hfn hr
  refine ⟨t, ht, fun hsub hc => ?ymm, fun hsub hc => ?cetUser, fun hsub hc => ?cetSupervisor, fun hsub hc => ?lwp,
    fun h2 h3E hc => ?unimplemented, fun habove => ?above⟩
  case ymm =>
    rw [hsub, leaf0000_000D_of_implemented (by decide) (by decide) hc] at hshow
    exact ⟨Register.shownBy_whole.mp hshow.eax, Register.shownBy_whole.mp hshow.ebx⟩
  case cetUser =>
    rw [hsub, leaf0000_000D_of_implemented (by decide) (by decide) hc] at hshow
    obtain ⟨hUpper, hKind⟩ := shownBy_cetEcx.mp hshow.ecx
    exact ⟨Register.shownBy_whole.mp hshow.eax, Register.shownBy_whole.mp hshow.ebx, hUpper, hKind,
      Register.shownBy_whole.mp hshow.edx⟩
  case cetSupervisor =>
    rw [hsub, leaf0000_000D_of_implemented (by decide) (by decide) hc] at hshow
    obtain ⟨hUpper, hKind⟩ := shownBy_cetEcx.mp hshow.ecx
    exact ⟨Register.shownBy_whole.mp hshow.eax, Register.shownBy_whole.mp hshow.ebx, hUpper, hKind,
      Register.shownBy_whole.mp hshow.edx⟩
  case lwp =>
    rw [hsub, leaf0000_000D_of_implemented (by decide) (by decide) hc] at hshow
    exact ⟨Register.shownBy_whole.mp hshow.eax, Register.shownBy_whole.mp hshow.ebx⟩
  case unimplemented =>
    rw [leaf0000_000D_of_unimplemented h2 h3E hc] at hshow
    exact holds_of_showsFields_zero hshow
  case above =>
    rw [leaf0000_000D_of_above habove] at hshow
    exact holds_of_showsFields_zero hshow

end Sys2Proof.Machine
end

/-! Extended functions 8000_0000h to 8000_0007h return the fields of their entries (43_ext_fn0_to_fn8.md).

As for the standard functions, the fields of an entry are shown once for any extended entry of a good shape
(`exec_extended_showsFields`), and each statement reads off its own lists with the lemmas on `Register.shownBy`. The
name string is no list of small fields: the four registers of an execution are consecutive pieces of it, so the 16
characters are a slice of the string. -/

namespace Sys2Proof.Machine

variable {s : State}

/-! ## Executions of extended functions -/

/-- CPUID at an extended function in range, its gate open, completes and shows the fields of the function's entry. -/
theorem exec_extended_showsFields {fn : Word} {e : Entry} (hx : s.mayExecute) (hfn : s.readReg .eax = fn)
    (hs : 0x80000000 ≤ fn) (hr : fn ≤ s.cfg.LFuncExt) (hg : gateOpen s.cfg fn = true)
    (hok : e.ShapeOk) (he : extendedEntry s.cfg s.env fn (s.readReg .ecx) = e) :
    ∃ t, exec .cpuid s = .next t ∧ t.ShowsFields e := by
  have hres : s.cpuidResult = e.fill s.draws4 := he ▸ cpuidResult_extended hfn hs hr hg
  exact ⟨s.afterCpuid, exec_of_mayExecute hx, showsFields_of_holds hok (hres ▸ holds_afterCpuid s)⟩

/-! ## The shapes of the entries -/

section
variable (cfg : Cfg) (env : Env) (sub : Word)

/-- EAX has the fields of EAX of function 1, under the same condition (R203). -/
theorem fn8000_0001_EAX_eq : fn8000_0001_EAX cfg env sub = fn0000_0001_EAX cfg env sub := rfl

theorem shapeOk_fn8000_0001_EAX : Register.shapeOk (fn8000_0001_EAX cfg env sub) = true :=
  fn8000_0001_EAX_eq cfg env sub ▸ shapeOk_fn0000_0001_EAX cfg env sub

theorem shapeOk_fn8000_0001_EBX : Register.shapeOk (fn8000_0001_EBX cfg env sub) = true := by
  unfold fn8000_0001_EBX
  generalize decide (0x10 ≤ familyOf cfg.Fn0000_0001_EAX) = packaged
  cases packaged <;> rfl

theorem shapeOk_leaf8000_0001 : (leaf8000_0001 cfg env sub).ShapeOk :=
  ⟨shapeOk_fn8000_0001_EAX cfg env sub, shapeOk_fn8000_0001_EBX cfg env sub, rfl, rfl⟩

theorem shapeOk_leaf8000_0005 : (leaf8000_0005 cfg env sub).ShapeOk := ⟨rfl, rfl, rfl, rfl⟩

theorem shapeOk_leaf8000_0006 : (leaf8000_0006 cfg env sub).ShapeOk := ⟨rfl, rfl, rfl, rfl⟩

theorem shapeOk_leaf8000_0007 : (leaf8000_0007 cfg env sub).ShapeOk := ⟨rfl, rfl, rfl, rfl⟩

end

/-! ## Function 8000_0000h -/

/-- The four values of function 8000_0000h, all 32 bits of each defined (R200, R201). -/
theorem cpuidResult_leaf8000_0000 (h : s.readReg .eax = 0x80000000) (hr : 0x80000000 ≤ s.cfg.LFuncExt) :
    s.cpuidResult = ⟨s.cfg.LFuncExt, 0x68747541, 0x444D4163, 0x69746E65⟩ :=
  calc s.cpuidResult
    _ = (leaf8000_0000 s.cfg s.env (s.readReg .ecx)).fill s.draws4 := cpuidResult_extended h (by decide) hr rfl
    _ = ⟨s.cfg.LFuncExt, 0x68747541, 0x444D4163, 0x69746E65⟩ := by
      simp only [Entry.fill, leaf8000_0000, fn8000_0000_EAX, fn8000_0000_EBX, fn8000_0000_ECX, fn8000_0000_EDX,
        Register.fill_whole]

/-- Settles O26: the four values are fixed but for LFuncExt, and the constants are those of function 0. -/
theorem function8000_0000 : Obligations.Function8000_0000 := by
  intro s hx hfn hr
  have hres := cpuidResult_leaf8000_0000 hfn hr
  obtain ⟨ha, hb, hc, hd⟩ := hres ▸ holds_afterCpuid s
  refine ⟨s.afterCpuid, exec_of_mayExecute hx, ha, hb, hc, hd, ?_⟩
  rw [results_afterCpuid, hres, vendorString_constants]

/-! ## Function 8000_0001h -/

/-- Settles O27: the fields of EAX and EBX, some of them under a condition, then the bits of ECX in the order of the
entry's list. -/
theorem function8000_0001 : Obligations.Function8000_0001 := by
  intro s hx hfn hr
  obtain ⟨t, ht, hshow⟩ := exec_extended_showsFields hx hfn (by decide) hr rfl (shapeOk_leaf8000_0001 ..) rfl
  refine ⟨t, ht, ?_⟩
  have habc := And.intro hshow.eax (And.intro hshow.ebx hshow.ecx)
  simpa only [leaf8000_0001, fn8000_0001_EAX, fn8000_0001_EBX, fn8000_0001_ECX, Register.shownBy_append,
    Register.shownBy_onlyIf, Register.shownBy_cons, Register.shownBy_nil, beq_iff_eq, decide_eq_true_eq, and_true,
    and_assoc] using habc

/-! ## Functions 8000_0002h to 8000_0004h -/

/-- Above its lowest byte, a concatenation reads as what stands there. -/
theorem extract_append_byte {w : Nat} (x : BitVec w) (c : Byte) (n : Nat) :
    (x ++ c).extractLsb' (n + 8) 8 = x.extractLsb' n 8 :=
  BitVec.extractLsb'_append_eq_of_le (Nat.le_add_left 8 n)

/-- The bytes of four characters laid in a register are those characters, the lowest first (R42). -/
theorem wordBytes_append (c0 c1 c2 c3 : Byte) : wordBytes (c3 ++ c2 ++ c1 ++ c0) = [c0, c1, c2, c3] := by
  have h0 : (c3 ++ c2 ++ c1 ++ c0).extractLsb' 0 8 = c0 := BitVec.extractLsb'_append_eq_right
  have h1 : (c3 ++ c2 ++ c1 ++ c0).extractLsb' 8 8 = c1 := by
    rw [extract_append_byte _ c0 0, BitVec.extractLsb'_append_eq_right]
  have h2 : (c3 ++ c2 ++ c1 ++ c0).extractLsb' 16 8 = c2 := by
    rw [extract_append_byte _ c0 8, extract_append_byte _ c1 0, BitVec.extractLsb'_append_eq_right]
  have h3 : (c3 ++ c2 ++ c1 ++ c0).extractLsb' 24 8 = c3 := by
    rw [extract_append_byte _ c0 16, extract_append_byte _ c1 8, BitVec.extractLsb'_append_eq_left]
  rw [wordBytes, List.cons.injEq, List.cons.injEq, List.cons.injEq, List.cons.injEq]
  exact ⟨h0, h1, h2, h3, rfl⟩

/-- The bytes of a register of the name string are its four characters from `base` on (R213). -/
theorem wordBytes_nameWord (name : Vector Byte 48) (base : Fin 45) :
    wordBytes (nameWord name base) = (name.toList.drop base).take 4 := by
  have hlen : name.toList.length = 48 := Vector.length_toList
  rw [nameWord, wordBytes_append, List.drop_eq_getElem_cons (by omega), List.drop_eq_getElem_cons (by omega),
    List.drop_eq_getElem_cons (by omega), List.drop_eq_getElem_cons (by omega)]
  rfl

/-- The four registers of an entry of the name string hold 16 consecutive characters, as each holds the four that
follow those of the one before (R213). -/
theorem nameCharacters_nameEntry (env : Env) (k : Fin 3) (d : Regs4) :
    nameCharacters ((nameEntry env k).fill d) = (env.NameString.toList.drop (16 * k)).take (4 + 4 + 4 + 4) := by
  simp only [nameCharacters, nameEntry, Entry.fill, Register.fill_whole, wordBytes_nameWord, List.take_add,
    List.drop_drop]

/-- The three functions of the name string, numbered from 0. -/
theorem exists_nameFunction {fn : Word} (hlo : 0x80000002 ≤ fn) (hhi : fn ≤ 0x80000004) :
    ∃ k : Fin 3, fn = 0x80000002 + BitVec.ofNat 32 k ∧ (fn - 0x80000002).toNat = k :=
  ⟨⟨(fn - 0x80000002).toNat, by bv_omega⟩, by bv_omega, rfl⟩

/-- Each of the three functions has its own piece of the string. -/
theorem extendedEntry_name (cfg : Cfg) (env : Env) (sub : Word) :
    ∀ k : Fin 3, extendedEntry cfg env (0x80000002 + BitVec.ofNat 32 k) sub = nameEntry env k
  | 0 => rfl
  | 1 => rfl
  | 2 => rfl

/-- None of the three functions has a gate. -/
theorem gateOpen_name (cfg : Cfg) : ∀ k : Fin 3, gateOpen cfg (0x80000002 + BitVec.ofNat 32 k) = true
  | 0 => rfl
  | 1 => rfl
  | 2 => rfl

/-- Settles O30: the registers hold a slice of the string, and a character of the slice is one of the string. -/
theorem nameStringFunctions : Obligations.NameStringFunctions := by
  intro s hx hlo hhi hr
  obtain ⟨k, hfn, hk⟩ := exists_nameFunction hlo hhi
  have hres : s.cpuidResult = (nameEntry s.env k).fill s.draws4 := by
    rw [cpuidResult_extended hfn (by bv_omega) (hfn ▸ hr) (gateOpen_name s.cfg k), extendedEntry_name]
  refine ⟨s.afterCpuid, exec_of_mayExecute hx, fun j hj => ?_⟩
  rw [results_afterCpuid, hres, nameCharacters_nameEntry, List.getElem?_take_of_lt hj, List.getElem?_drop, hk]

/-! ## Functions 8000_0005h and 8000_0006h -/

/-- The entries for 4-MB pages are half of an even size field (R216). -/
theorem entriesFor4M_of_even {size : BitVec 8} {n : Nat} (hn : size.toNat = 2 * n) : entriesFor4M size = some n := by
  rw [entriesFor4M, hn, half_two_mul]

/-- A cache size in KB counts 1024 bytes each (R218, R219, R225). -/
theorem kilobytes_eq_mul {w : Nat} (size : BitVec w) : kilobytes size = size.toNat * 1024 := Nat.mul_comm ..

/-- Settles O31: the fields of the four registers, and the halves and sizes computed from the fields shown. -/
theorem function8000_0005 : Obligations.Function8000_0005 := by
  intro s hx hfn hr
  obtain ⟨t, ht, ha, hb, hc, hd⟩ :=
    exec_extended_showsFields hx hfn (by decide) hr rfl (shapeOk_leaf8000_0005 ..) rfl
  simp only [leaf8000_0005, fn8000_0005_EAX, fn8000_0005_EBX, fn8000_0005_ECX, fn8000_0005_EDX, Register.shownBy_cons,
    Register.shownBy_nil, and_true] at ha hb hc hd
  obtain ⟨hDAssoc, hDSize, hIAssoc, hISize⟩ := ha
  obtain ⟨hD4KAssoc, hD4KSize, hI4KAssoc, hI4KSize⟩ := hb
  obtain ⟨hDcSize, hDcAssoc, hDcLinesPerTag, hDcLineSize⟩ := hc
  obtain ⟨hIcSize, hIcAssoc, hIcLinesPerTag, hIcLineSize⟩ := hd
  exact ⟨t, ht, hDAssoc, hDSize, hIAssoc, hISize, hD4KAssoc, hD4KSize, hI4KAssoc, hI4KSize, hDcSize, hDcAssoc,
    hDcLinesPerTag, hDcLineSize, hIcSize, hIcAssoc, hIcLinesPerTag, hIcLineSize,
    fun _ hn => entriesFor4M_of_even (hDSize ▸ hn), fun _ hn => entriesFor4M_of_even (hISize ▸ hn),
    hDcSize ▸ kilobytes_eq_mul _, hIcSize ▸ kilobytes_eq_mul _⟩

/-- Settles O32: the fields of the four registers, and the halves, the size and the range computed from the fields
shown. A half is that of an even field that is not scaled; the premise that the TLB is not disabled is not needed. -/
theorem function8000_0006 : Obligations.Function8000_0006 := by
  intro s hx hfn hr
  obtain ⟨t, ht, ha, hb, hc, hd⟩ :=
    exec_extended_showsFields hx hfn (by decide) hr rfl (shapeOk_leaf8000_0006 ..) rfl
  simp only [leaf8000_0006, fn8000_0006_EAX, fn8000_0006_EBX, fn8000_0006_ECX, fn8000_0006_EDX, Register.shownBy_cons,
    Register.shownBy_nil, and_true] at ha hb hc hd
  obtain ⟨hDAssoc, hDSize, hIAssoc, hISize⟩ := ha
  obtain ⟨hD4KAssoc, hD4KSize, hI4KAssoc, hI4KSize⟩ := hb
  obtain ⟨hL2Size, hL2Assoc, hL2LinesPerTag, hL2LineSize⟩ := hc
  obtain ⟨hL3Size, hL3Assoc, hL3LinesPerTag, hL3LineSize⟩ := hd
  exact ⟨t, ht, hDAssoc, hDSize, hIAssoc, hISize, hD4KAssoc, hD4KSize, hI4KAssoc, hI4KSize, hL2Size, hL2Assoc,
    hL2LinesPerTag, hL2LineSize, hL3Size, hL3Assoc, hL3LinesPerTag, hL3LineSize,
    fun _ _ _ hu hn => l2EntriesFor4M_unscaled hu (hDSize ▸ hn),
    fun _ _ _ hu hn => l2EntriesFor4M_unscaled hu (hISize ▸ hn),
    hL2Size ▸ kilobytes_eq_mul _, by rw [hL3Size]; rfl⟩

/-! ## Function 8000_0007h -/

/-- Settles O33: the fields of EBX and EDX, read off their lists, and ECX as a whole. -/
theorem function8000_0007 : Obligations.Function8000_0007 := by
  intro s hx hfn hr
  obtain ⟨t, ht, hshow⟩ := exec_extended_showsFields hx hfn (by decide) hr rfl (shapeOk_leaf8000_0007 ..) rfl
  refine ⟨t, ht, ?_⟩
  have hbcd := And.intro hshow.ebx (And.intro (Register.shownBy_whole.mp hshow.ecx) hshow.edx)
  simpa only [leaf8000_0007, fn8000_0007_EBX, fn8000_0007_EDX, Register.shownBy_cons, Register.shownBy_nil, and_true,
    and_assoc] using hbcd

end Sys2Proof.Machine

/-! Extended functions 8000_000Ah and 8000_0019h to 8000_001Bh return the fields of their entries
(44_ext_fn9_to_fn1C.md).

An execution shows the fields of the entry that the function number selects (`exec_extended_showsFields`). Functions
8000_000Ah and 8000_001Bh have a gate, which is a feature bit of function 8000_0001h; that bit is all the gate asks. -/

namespace Sys2Proof.Machine

/-! ## The gates -/

section
variable {cfg : Cfg}

/-- The gate of function 8000_000Ah is the SVM bit (R251). -/
theorem gateOpen_8000_000A_iff : gateOpen cfg 0x8000000A = true ↔ cfg.Fn8000_0001_ECX.SVM = 1 := beq_iff_eq

/-- The gate of function 8000_001Bh is the IBS bit (R264). -/
theorem gateOpen_8000_001B_iff : gateOpen cfg 0x8000001B = true ↔ cfg.Fn8000_0001_ECX.IBS = 1 := beq_iff_eq

end

/-! ## The shapes of the entries -/

section
variable (cfg : Cfg) (env : Env) (sub : Word)

theorem shapeOk_leaf8000_000A : (leaf8000_000A cfg env sub).ShapeOk := ⟨rfl, rfl, rfl, rfl⟩

theorem shapeOk_leaf8000_0019 : (leaf8000_0019 cfg env sub).ShapeOk := ⟨rfl, rfl, rfl, rfl⟩

theorem shapeOk_leaf8000_001A : (leaf8000_001A cfg env sub).ShapeOk := ⟨rfl, rfl, rfl, rfl⟩

theorem shapeOk_leaf8000_001B : (leaf8000_001B cfg env sub).ShapeOk := ⟨rfl, rfl, rfl, rfl⟩

end

/-! ## Function 8000_000Ah -/

/-- Settles O35: SVM opens the gate; EBX is one field of 32 bits, and the fields of the other registers are read off
their lists. -/
theorem function8000_000A : Obligations.Function8000_000A := by
  intro s hx hfn hr hsvm
  obtain ⟨t, ht, ha, hb, hc, hd⟩ :=
    exec_extended_showsFields hx hfn (by decide) hr (gateOpen_8000_000A_iff.mpr hsvm) (shapeOk_leaf8000_000A ..) rfl
  have hNasid : t.readReg .ebx = s.cfg.Fn8000_000A_EBX.NASID := Register.shownBy_whole.mp hb
  simp only [leaf8000_000A, fn8000_000A_EAX, fn8000_000A_ECX, fn8000_000A_EDX, Register.shownBy_cons,
    Register.shownBy_nil, and_true] at ha hc hd
  exact ⟨t, ht, ha, hNasid, hc, hd⟩

/-! ## Functions 8000_0019h, 8000_001Ah and 8000_001Bh -/

/-- Settles O36: each function shows the fields of its own entry; only the IBS bits need a gate to be open. -/
theorem functions8000_0019To8000_001B : Obligations.Functions8000_0019To8000_001B := by
  intro s hx
  refine ⟨fun hfn hr => ?tlb, fun hfn hr => ?optimizations, fun hfn hr hibs => ?sampling⟩
  case tlb =>
    obtain ⟨t, ht, hshow⟩ := exec_extended_showsFields hx hfn (by decide) hr rfl (shapeOk_leaf8000_0019 ..) rfl
    refine ⟨t, ht, ?_⟩
    have hab := And.intro hshow.eax hshow.ebx
    simpa only [leaf8000_0019, fn8000_0019_EAX, fn8000_0019_EBX, Register.shownBy_cons, Register.shownBy_nil,
      and_true, and_assoc] using hab
  case optimizations =>
    obtain ⟨t, ht, hshow⟩ := exec_extended_showsFields hx hfn (by decide) hr rfl (shapeOk_leaf8000_001A ..) rfl
    refine ⟨t, ht, ?_⟩
    simpa only [leaf8000_001A, fn8000_001A_EAX, Register.shownBy_cons, Register.shownBy_nil, and_true]
      using hshow.eax
  case sampling =>
    obtain ⟨t, ht, hshow⟩ :=
      exec_extended_showsFields hx hfn (by decide) hr (gateOpen_8000_001B_iff.mpr hibs) (shapeOk_leaf8000_001B ..) rfl
    refine ⟨t, ht, ?_⟩
    simpa only [leaf8000_001B, fn8000_001B_EAX, Register.shownBy_cons, Register.shownBy_nil, and_true]
      using hshow.eax

end Sys2Proof.Machine

/-! Extended functions 8000_001Dh to 8000_0023h and 8000_0025h return the fields of their entries
(45_ext_fn1D_to_fn26.md).

An execution shows the fields of the entry that the function number selects (`exec_extended_showsFields`). Functions
8000_001Dh and 8000_0020h select a second time, by ECX: each has one selection law for every class of ECX that a
statement speaks of. Functions 8000_001Dh and 8000_001Eh share one gate, the bit TopologyExtensions, and one shift,
that of ShareId. -/

namespace Sys2Proof.Machine

/-! ## Registers of one conditional field -/

/-- A register that is one conditional field of 32 bits shows it when the condition holds (R79). -/
theorem Register.shownBy_onlyIf_whole {n : Nat} {a b : BitVec n} {x v : Word} :
    Register.shownBy (Field.onlyIf (a == b) ⟨31, 0, x⟩) v ↔ (a = b → v = x) := by
  rw [Register.shownBy_onlyIf, beq_iff_eq, bitsOf_whole]

/-! ## The gate -/

section
variable {cfg : Cfg}

/-- The gate of function 8000_001Dh is the TopologyExtensions bit (R280). -/
theorem gateOpen_8000_001D_iff : gateOpen cfg 0x8000001D = true ↔ cfg.Fn8000_0001_ECX.TopologyExtensions = 1 :=
  beq_iff_eq

/-- The gate of function 8000_001Eh is the TopologyExtensions bit (R290). -/
theorem gateOpen_8000_001E_iff : gateOpen cfg 0x8000001E = true ↔ cfg.Fn8000_0001_ECX.TopologyExtensions = 1 :=
  beq_iff_eq

end

/-! ## What ECX selects -/

section
variable {cfg : Cfg} {env : Env} {sub : Word}

/-- The number of an enumerated cache selects that cache (R280). -/
theorem leaf8000_001D_of_cache {c : Record.Cache} (h : cfg.Fn8000_001D_x[sub.toNat]? = some c) :
    leaf8000_001D cfg env sub = leaf8000_001D_cache cfg env sub c := by
  rw [leaf8000_001D, h]

/-- A number that is not below the number of caches selects the Null cache (R287). -/
theorem leaf8000_001D_of_noCache (h : cfg.NumCaches ≤ sub.toNat) : leaf8000_001D cfg env sub = leaf8000_001D_null := by
  rw [leaf8000_001D, List.getElem?_eq_none h]

/-- A gate of a subfunction of 8000_0020h fails only where its bit is 0 (R300). -/
theorem gateBit_ne_zero {b : BitVec 1} (h : b = 1) : b ≠ 0 := h ▸ (by decide)

/-- Subfunction 0 selects the feature bits (R301). -/
theorem leaf8000_0020_sub0 : leaf8000_0020 cfg env 0 = leaf8000_0020_x0 cfg env 0 := rfl

/-- Subfunction 1 selects L3 bandwidth enforcement where it is supported (R302). -/
theorem leaf8000_0020_sub1 (h : cfg.Fn8000_0020_EBX_x0.L3MBE = 1) :
    leaf8000_0020 cfg env 1 = leaf8000_0020_x1 cfg env 1 := if_neg (gateBit_ne_zero h)

/-- Subfunction 2 selects L3 slow-memory bandwidth enforcement where it is supported (R303). -/
theorem leaf8000_0020_sub2 (h : cfg.Fn8000_0020_EBX_x0.L3SMBE = 1) :
    leaf8000_0020 cfg env 2 = leaf8000_0020_x2 cfg env 2 := if_neg (gateBit_ne_zero h)

/-- Subfunction 3 selects the bandwidth events where they can be configured (R304). -/
theorem leaf8000_0020_sub3 (h : cfg.Fn8000_0020_EBX_x0.BMEC = 1) :
    leaf8000_0020 cfg env 3 = leaf8000_0020_x3 cfg env 3 := if_neg (gateBit_ne_zero h)

/-- Subfunction 5 selects the assignable counters where they are supported (R305). -/
theorem leaf8000_0020_sub5 (h : cfg.Fn8000_0020_EBX_x0.ABMC = 1) :
    leaf8000_0020 cfg env 5 = leaf8000_0020_x5 cfg env 5 := if_neg (gateBit_ne_zero h)

end

/-! ## The shapes of the entries -/

section
variable (cfg : Cfg) (env : Env) (sub : Word)

theorem shapeOk_fn8000_001D_ECX_xn (c : Record.Cache) :
    Register.shapeOk (fn8000_001D_ECX_xn cfg env sub c) = true := by
  unfold fn8000_001D_ECX_xn
  generalize (c.EAX.FullyAssociative == 0) = setAssociative
  cases setAssociative <;> rfl

/-- Whatever cache ECX selects, the entry has a good shape. -/
theorem shapeOk_leaf8000_001D : (leaf8000_001D cfg env sub).ShapeOk := by
  unfold leaf8000_001D
  split
  next c _ => exact ⟨rfl, rfl, shapeOk_fn8000_001D_ECX_xn cfg env sub c, rfl⟩
  next => exact ⟨rfl, rfl, rfl, rfl⟩

theorem shapeOk_fn8000_001E_EAX : Register.shapeOk (fn8000_001E_EAX cfg env sub) = true := by
  unfold fn8000_001E_EAX
  generalize (env.ApicEn == 1) = enabled
  cases enabled <;> rfl

theorem shapeOk_leaf8000_001E : (leaf8000_001E cfg env sub).ShapeOk :=
  ⟨shapeOk_fn8000_001E_EAX cfg env sub, rfl, rfl, rfl⟩

theorem shapeOk_leaf8000_001F : (leaf8000_001F cfg env sub).ShapeOk := ⟨rfl, rfl, rfl, rfl⟩

/-- Whatever subfunction ECX selects, gated or not, the entry has a good shape. -/
theorem shapeOk_leaf8000_0020 : (leaf8000_0020 cfg env sub).ShapeOk := by
  unfold leaf8000_0020
  split_ifs <;> exact ⟨rfl, rfl, rfl, rfl⟩

theorem shapeOk_leaf8000_0021 : (leaf8000_0021 cfg env sub).ShapeOk := ⟨rfl, rfl, rfl, rfl⟩

theorem shapeOk_leaf8000_0022 : (leaf8000_0022 cfg env sub).ShapeOk := ⟨rfl, rfl, rfl, rfl⟩

theorem shapeOk_leaf8000_0023 : (leaf8000_0023 cfg env sub).ShapeOk := ⟨rfl, rfl, rfl, rfl⟩

theorem shapeOk_leaf8000_0025 : (leaf8000_0025 cfg env sub).ShapeOk := ⟨rfl, rfl, rfl, rfl⟩

end

/-! ## The arithmetic over the fields -/

/-- ShareId is the identifier shifted by the least `k` with `2^k` at least the number of sharers (R282, R292). -/
theorem shareId_eq_shift {w n k : Nat} (apicId : BitVec w) (hn : n ≤ 4096) (hk : n ≤ 2 ^ k)
    (hmin : ∀ j, j < k → 2 ^ j < n) : shareId apicId n = apicId >>> k := by
  rw [shareId, ceilLog2_eq hn hk hmin]

/-- The field of 12 bits announces at most 4096 sharers (R282). -/
theorem cacheSharers_le (c : Record.Cache) : cacheSharers c ≤ 4096 := c.EAX.NumSharingCache.isLt

/-- The field of 8 bits announces at most 256 threads (R292). -/
theorem threadsPerUnit_le (r : Record.Fn8000_001E_EBX) : threadsPerUnit r ≤ 256 := r.ThreadsPerComputeUnit.isLt

/-- The sets of a cache that is not fully associative (R284). -/
theorem cacheSets_of_setAssociative {c : Record.Cache} (h : c.EAX.FullyAssociative = 0) :
    cacheSets c = some (c.ECX.CacheNumSets.toNat + 1) := if_pos h

/-- A size field that is not 0 counts the bits above 24 (R305). -/
theorem counterWidth_of_ne_zero {size : BitVec 8} (h : size ≠ 0) : counterWidth size = some (24 + size.toNat) :=
  if_neg h

/-- A patch size that is not 0 counts 16 bytes each (R311). -/
theorem patchBytes_of_ne_zero {r : Record.Fn8000_0021_EBX} (h : r.MicrocodePatchSize ≠ 0) :
    patchBytes r = some (16 * r.MicrocodePatchSize.toNat) := if_neg h

/-- A patch size of 0 gives no size (R311). -/
theorem patchBytes_of_eq_zero {r : Record.Fn8000_0021_EBX} (h : r.MicrocodePatchSize = 0) : patchBytes r = none :=
  if_pos h

/-- A patch size of 0 leaves the fixed bound (R311). -/
theorem patchBound_of_eq_zero {r : Record.Fn8000_0021_EBX} (h : r.MicrocodePatchSize = 0) : patchBound r = 5568 := by
  rw [patchBound, patchBytes_of_eq_zero h, Option.getD_none]

/-! ## Function 8000_001Dh -/

/-- CPUID at function 8000_001Dh in range, its gate open, shows the fields of the cache that ECX selects. -/
theorem exec_8000_001D_showsFields {s : State} (hx : s.mayExecute) (hfn : s.readReg .eax = 0x8000001D)
    (hr : 0x8000001D ≤ s.cfg.LFuncExt) (htopo : s.cfg.Fn8000_0001_ECX.TopologyExtensions = 1) :
    ∃ t, exec .cpuid s = .next t ∧ t.ShowsFields (leaf8000_001D s.cfg s.env (s.readReg .ecx)) :=
  exec_extended_showsFields hx hfn (by decide) hr (gateOpen_8000_001D_iff.mpr htopo) (shapeOk_leaf8000_001D ..) rfl

/-- Settles O38: the fields of the selected cache, and the counts computed from the fields shown. -/
theorem function8000_001DCache : Obligations.Function8000_001DCache := by
  intro s c hx hfn hr htopo hcache
  obtain ⟨t, ht, hshow⟩ := exec_8000_001D_showsFields hx hfn hr htopo
  rw [leaf8000_001D_of_cache hcache] at hshow
  obtain ⟨ha, hb, hc, hd⟩ := hshow
  have hSets : c.EAX.FullyAssociative = 0 → t.readReg .ecx = c.ECX.CacheNumSets := Register.shownBy_onlyIf_whole.mp hc
  simp only [leaf8000_001D_cache, fn8000_001D_EAX_xn, fn8000_001D_EBX_xn, fn8000_001D_EDX_xn, Register.shownBy_cons,
    Register.shownBy_nil, and_true] at ha hb hd
  obtain ⟨hSharing, hFully, hSelfInit, hLevel, hType⟩ := ha
  obtain ⟨hWays, hPartitions, hLine⟩ := hb
  obtain ⟨hInclusive, hWbinvd⟩ := hd
  refine ⟨t, ht, hSharing, hFully, hSelfInit, hLevel, hType, hWays, hPartitions, hLine, hSets, hInclusive, hWbinvd,
    by rw [hSharing]; rfl, fun _ => shareId_eq_shift _ (cacheSharers_le c), by rw [hWays]; rfl,
    by rw [hPartitions]; rfl, by rw [hLine]; rfl, fun hzero => ?_⟩
  have hset : c.EAX.FullyAssociative = 0 := hFully ▸ hzero
  rw [hSets hset, cacheSets_of_setAssociative hset]

/-- Settles O39: a number that selects no cache selects the Null cache, whose one field is its type. -/
theorem function8000_001DNull : Obligations.Function8000_001DNull := by
  intro s hx hfn hr htopo hnone
  obtain ⟨t, ht, hshow⟩ := exec_8000_001D_showsFields hx hfn hr htopo
  rw [leaf8000_001D_of_noCache hnone] at hshow
  obtain ⟨hType, -⟩ := Register.shownBy_cons.mp hshow.eax
  exact ⟨t, ht, hType⟩

/-! ## Function 8000_001Eh -/

/-- Settles O40: the fields of the three registers, EAX under its condition, and the counts computed from the fields
shown. -/
theorem function8000_001E : Obligations.Function8000_001E := by
  intro s hx hfn hr htopo
  obtain ⟨t, ht, ha, hb, hc, -⟩ :=
    exec_extended_showsFields hx hfn (by decide) hr (gateOpen_8000_001E_iff.mpr htopo) (shapeOk_leaf8000_001E ..) rfl
  have hApicId : s.env.ApicEn = 1 → t.readReg .eax = s.cfg.Fn8000_001E_EAX.ExtendedApicId :=
    Register.shownBy_onlyIf_whole.mp ha
  simp only [leaf8000_001E, fn8000_001E_EBX, fn8000_001E_ECX, Register.shownBy_cons, Register.shownBy_nil, and_true]
    at hb hc
  obtain ⟨hThreads, hUnit⟩ := hb
  obtain ⟨hNodes, hNode⟩ := hc
  exact ⟨t, ht, hApicId, hThreads, hUnit, hNodes, hNode, by rw [hThreads]; rfl,
    fun _ => shareId_eq_shift _ (Nat.le_trans (threadsPerUnit_le _) (by decide)), by rw [hNodes]; rfl⟩

/-! ## Function 8000_001Fh -/

/-- Settles O41: the bits of EAX and the fields of EBX, read off their lists, and ECX and EDX as a whole. -/
theorem function8000_001F : Obligations.Function8000_001F := by
  intro s hx hfn hr
  obtain ⟨t, ht, ha, hb, hc, hd⟩ :=
    exec_extended_showsFields hx hfn (by decide) hr rfl (shapeOk_leaf8000_001F ..) rfl
  refine ⟨t, ht, ?_⟩
  have habcd := And.intro ha (And.intro hb (And.intro (Register.shownBy_whole.mp hc) (Register.shownBy_whole.mp hd)))
  simpa only [leaf8000_001F, fn8000_001F_EAX, fn8000_001F_EBX, Register.shownBy_cons, Register.shownBy_nil, and_true,
    and_assoc] using habcd

/-! ## Function 8000_0020h -/

/-- Settles O42: ECX and, above subfunction 0, the gate of the subfunction select the entry, whose fields are read off
its lists. -/
theorem function8000_0020 : Obligations.Function8000_0020 := by
  intro s hx hfn hr
  obtain ⟨t, ht, hshow⟩ := exec_extended_showsFields hx hfn (by decide) hr rfl (shapeOk_leaf8000_0020 ..) rfl
  refine ⟨t, ht, fun hsub => ?features, fun hsub hgate => ?enforcement, fun hsub hgate => ?slowEnforcement,
    fun hsub hgate => ?events, fun hsub hgate => ?counters⟩
  case features =>
    rw [hsub, leaf8000_0020_sub0] at hshow
    simpa only [leaf8000_0020_x0, fn8000_0020_EBX_x0, Register.shownBy_cons, Register.shownBy_nil, and_true]
      using hshow.ebx
  case enforcement =>
    rw [hsub, leaf8000_0020_sub1 hgate] at hshow
    exact ⟨Register.shownBy_whole.mp hshow.eax, Register.shownBy_whole.mp hshow.edx⟩
  case slowEnforcement =>
    rw [hsub, leaf8000_0020_sub2 hgate] at hshow
    exact ⟨Register.shownBy_whole.mp hshow.eax, Register.shownBy_whole.mp hshow.edx⟩
  case events =>
    rw [hsub, leaf8000_0020_sub3 hgate] at hshow
    have hbc := And.intro hshow.ebx hshow.ecx
    simpa only [leaf8000_0020_x3, fn8000_0020_EBX_x3, fn8000_0020_ECX_x3, Register.shownBy_cons, Register.shownBy_nil,
      and_true, and_assoc] using hbc
  case counters =>
    rw [hsub, leaf8000_0020_sub5 hgate] at hshow
    obtain ⟨ha, hb, hc, -⟩ := hshow
    simp only [leaf8000_0020_x5, fn8000_0020_EAX_x5, fn8000_0020_EBX_x5, fn8000_0020_ECX_x5, Register.shownBy_cons,
      Register.shownBy_nil, and_true] at ha hb hc
    obtain ⟨hOverflow, hSize⟩ := ha
    exact ⟨hOverflow, hSize, hb, hc, hSize ▸ counterWidth_of_ne_zero⟩

/-! ## Function 8000_0021h -/

/-- Settles O43: the bits of EAX and the two fields of EBX, and the patch size computed from the field shown. -/
theorem function8000_0021 : Obligations.Function8000_0021 := by
  intro s hx hfn hr
  obtain ⟨t, ht, ha, hb, -, -⟩ :=
    exec_extended_showsFields hx hfn (by decide) hr rfl (shapeOk_leaf8000_0021 ..) rfl
  refine ⟨t, ht, ?_⟩
  simp only [leaf8000_0021, fn8000_0021_EBX, Register.shownBy_cons, Register.shownBy_nil, and_true] at hb
  obtain ⟨hRap, hPatch⟩ := hb
  have hsize : bitsOf (t.readReg .ebx) 15 0 ≠ 0 →
      patchBytes s.cfg.Fn8000_0021_EBX = some (16 * (bitsOf (t.readReg .ebx) 15 0).toNat) :=
    hPatch ▸ patchBytes_of_ne_zero
  have hbound : bitsOf (t.readReg .ebx) 15 0 = 0 →
      patchBytes s.cfg.Fn8000_0021_EBX = none ∧ patchBound s.cfg.Fn8000_0021_EBX = 5568 :=
    hPatch ▸ fun hzero => ⟨patchBytes_of_eq_zero hzero, patchBound_of_eq_zero hzero⟩
  have hab := And.intro ha (And.intro hRap (And.intro hPatch (And.intro hsize hbound)))
  simpa only [leaf8000_0021, fn8000_0021_EAX, Register.shownBy_cons, Register.shownBy_nil, and_true, and_assoc]
    using hab

/-! ## Functions 8000_0022h, 8000_0023h and 8000_0025h -/

/-- Settles O44: each function shows the fields of its own entry. -/
theorem functions8000_0022To8000_0025 : Obligations.Functions8000_0022To8000_0025 := by
  intro s hx
  refine ⟨fun hfn hr => ?monitoring, fun hfn hr => ?encryption, fun hfn hr => ?segmentedRmp⟩
  case monitoring =>
    obtain ⟨t, ht, hshow⟩ := exec_extended_showsFields hx hfn (by decide) hr rfl (shapeOk_leaf8000_0022 ..) rfl
    refine ⟨t, ht, ?_⟩
    have hab := And.intro hshow.eax hshow.ebx
    simpa only [leaf8000_0022, fn8000_0022_EAX, fn8000_0022_EBX, Register.shownBy_cons, Register.shownBy_nil,
      and_true, and_assoc] using hab
  case encryption =>
    obtain ⟨t, ht, hshow⟩ := exec_extended_showsFields hx hfn (by decide) hr rfl (shapeOk_leaf8000_0023 ..) rfl
    refine ⟨t, ht, ?_⟩
    have hab := And.intro hshow.eax hshow.ebx
    simpa only [leaf8000_0023, fn8000_0023_EAX, fn8000_0023_EBX, Register.shownBy_cons, Register.shownBy_nil,
      and_true] using hab
  case segmentedRmp =>
    obtain ⟨t, ht, hshow⟩ := exec_extended_showsFields hx hfn (by decide) hr rfl (shapeOk_leaf8000_0025 ..) rfl
    refine ⟨t, ht, ?_⟩
    have hab := And.intro hshow.eax hshow.ebx
    simpa only [leaf8000_0025, fn8000_0025_EAX, fn8000_0025_EBX, Register.shownBy_cons, Register.shownBy_nil,
      and_true, and_assoc] using hab

end Sys2Proof.Machine

/-! What an execution of CPUID keeps, what its results depend on, and what a step does with the bytes it fetches
(40_cpuid_instruction.md R70, R76, R77, R82; 20_memory.md R44; 10_state.md section 8).

A completed execution is `State.afterCpuid`, whose registers hold `State.cpuidResult`. That result is a function of
EAX, ECX, the record, `env` and the draws, and the draws fill just the bits that no field of the entry defines. -/

namespace Sys2Proof.Machine

variable {s s' : State}

/-! ## What an execution keeps -/

/-- The program counter after CPUID is a number of W bits (10_state.md R22). -/
theorem pcFits_afterCpuid (s : State) : s.afterCpuid.pcFits = true := decide_eq_true (wrap_toNat_lt s.ipWidth _)

/-- Settles O51: a completed step is an execution of CPUID, which writes nothing the invariant speaks of but pc. -/
theorem stepKeepsInvariant : Obligations.StepKeepsInvariant := by
  intro s t hinv hstep
  obtain ⟨-, rfl⟩ := step_next s hstep
  exact ⟨hinv.memory, hinv.configuration, hinv.environment, pcFits_afterCpuid s⟩

/-- CPUID writes the four registers, `pc` and the model's counter, and nothing else. -/
theorem sameButResults_afterCpuid (s : State) : sameButResults s s.afterCpuid :=
  ⟨rfl, rfl, rfl, rfl, rfl, rfl, fun _ => rfl⟩

/-- Settles O1: the state after the execution holds the four values, its pc is advanced, and the rest is framed. -/
theorem cpuidCompletes : Obligations.CpuidCompletes := fun s hx =>
  ⟨s.afterCpuid, exec_of_mayExecute hx, holds_afterCpuid s, afterCpuid_pc s, afterCpuid_drawCount s,
    sameButResults_afterCpuid s⟩

/-- Settles O2: of the two outcomes of CPUID, the fault is the one of the facility that stops it. -/
theorem cpuidFaultsWhenDisabled : Obligations.CpuidFaultsWhenDisabled := by
  intro s
  rw [← cpuidDisabled_eq_true]
  cases hd : s.cpuidDisabled with
  | true =>
    rw [exec_cpuid_of_disabled s hd]
    exact ⟨iff_of_true rfl rfl, fun e he => (Host.Outcome.fault.inj he).symm, nofun⟩
  | false =>
    rw [exec_cpuid_of_enabled s hd]
    exact ⟨iff_of_false nofun nofun, nofun, nofun⟩

/-! ## The upper halves -/

/-- CPUID leaves in bits 63:32 of each containing register what a write of 32 bits leaves there (R21). -/
theorem upperHolds_afterCpuid (s : State) :
    s.afterCpuid.upperHolds ⟨s.upperHalf .eax, s.upperHalf .ebx, s.upperHalf .ecx, s.upperHalf .edx⟩ :=
  ⟨extract_append_word .., extract_append_word .., extract_append_word .., extract_append_word ..⟩

/-- Under the policy zero every upper half is 0 (D1). -/
theorem upperHalf_of_zero (h : s.upperHalfPolicy = .zero) (r : Reg) : s.upperHalf r = 0 := by
  cases r <;> simp [State.upperHalf, h]

/-- The word of the draws that the policy draw leaves in the upper half of each register (D1). -/
def Reg.upperDraw : Reg → Nat
  | .eax => 4
  | .ebx => 5
  | .ecx => 6
  | .edx => 7

/-- Under the policy draw every upper half is a draw of its own (D1). -/
theorem upperHalf_of_draw (h : s.upperHalfPolicy = .draw) (r : Reg) : s.upperHalf r = s.drawWord r.upperDraw := by
  cases r <;> simp [State.upperHalf, h, Reg.upperDraw]

/-- Settles O3: the four upper halves, under each of the two policies. -/
theorem cpuidUpperHalves : Obligations.CpuidUpperHalves := by
  intro s hx
  refine ⟨s.afterCpuid, exec_of_mayExecute hx, fun hzero => ?zero, fun hdraw => ?draw⟩
  case zero => simpa only [upperHalf_of_zero hzero] using upperHolds_afterCpuid s
  case draw => simpa only [upperHalf_of_draw hdraw, Reg.upperDraw] using upperHolds_afterCpuid s

/-! ## What the results depend on -/

/-- Whether CPUID may execute depends on `env` alone. -/
theorem mayExecute_of_env_eq (he : s'.env = s.env) (hx : s.mayExecute) : s'.mayExecute := by
  rwa [State.mayExecute, he]

/-- Equal counts of executions draw alike (R76). -/
theorem draws4_congr (hd : s'.drawCount = s.drawCount) : s'.draws4 = s.draws4 := by
  simp only [State.draws4, State.drawWord, hd]

/-- CPUID completes in both of two states with the same `env`, and a relation between their results is one between
the registers it leaves. -/
theorem exec_pair {R : Regs4 → Regs4 → Prop} (hx : s.mayExecute) (he : s'.env = s.env)
    (hR : R s.cpuidResult s'.cpuidResult) :
    ∃ t t', exec .cpuid s = .next t ∧ exec .cpuid s' = .next t' ∧ R t.results t'.results :=
  ⟨s.afterCpuid, s'.afterCpuid, exec_of_mayExecute hx, exec_of_mayExecute (mayExecute_of_env_eq he hx), by
    rwa [results_afterCpuid, results_afterCpuid]⟩

/-- A state holds what it reads back. -/
theorem holds_iff_results {t : State} {v : Regs4} : t.holds v ↔ t.results = v := by
  cases v
  simp only [State.holds, State.results, Regs4.mk.injEq]

/-- CPUID in two states with the same `env` whose results are equal leaves the same four values. -/
theorem exec_pair_of_result_eq (hx : s.mayExecute) (he : s'.env = s.env) (hr : s'.cpuidResult = s.cpuidResult) :
    ∃ t t', exec .cpuid s = .next t ∧ exec .cpuid s' = .next t' ∧ t'.holds t.results := by
  obtain ⟨t, t', ht, ht', heq⟩ := exec_pair (R := fun v w => w = v) hx he hr
  exact ⟨t, t', ht, ht', holds_iff_results.mpr heq⟩

/-- The result is a function of the inputs of `sameInputs` and of the draws (R82). -/
theorem cpuidResult_of_sameInputs (h : sameInputs s s') :
    s'.cpuidResult = leaf s.cfg s.env s'.draws4 (s.readReg .eax) (s.readReg .ecx) := by
  rw [State.cpuidResult, h.configuration, h.environment, h.function, h.subfunction]

/-- Settles O4: with the draws equal, the results are. -/
theorem resultsDependOnInputsOnly : Obligations.ResultsDependOnInputsOnly := by
  intro s s' hx hin hd
  refine exec_pair_of_result_eq hx hin.environment ?_
  rw [cpuidResult_of_sameInputs hin, draws4_congr hd, State.cpuidResult]

/-- The defined bits of a filled entry do not depend on the draws (R77). -/
theorem agreeOn4_definedMask (e : Entry) (d d' : Regs4) : agreeOn4 e.definedMask (e.fill d) (e.fill d') :=
  (Entry.fill_spec e d d').1

/-- The other bits of a filled entry are the draws (R77). -/
theorem agreeOn4_complement_definedMask (e : Entry) (d : Regs4) :
    agreeOn4 e.definedMask.complement (e.fill d) d :=
  (Entry.fill_spec e d d).2

/-- Settles O5: both executions fill the same entry, each with its own draws. -/
theorem equalInputsEqualFields : Obligations.EqualInputsEqualFields := by
  intro s s' hx hin
  refine exec_pair hx hin.environment ?_
  rw [cpuidResult_of_sameInputs hin]
  exact agreeOn4_definedMask ..

/-- Settles O6: the execution fills the entry with its draws. -/
theorem reservedBitsAreDraws : Obligations.ReservedBitsAreDraws := by
  intro s hx
  refine ⟨s.afterCpuid, exec_of_mayExecute hx, ?_⟩
  rw [results_afterCpuid]
  exact agreeOn4_complement_definedMask ..

/-- Settles O8: the first execution leaves LFuncStd in EAX and the constant 444D_4163h in ECX (95_test_vectors.md
V-G9), and keeps the record and `env`. -/
theorem secondCpuidRunsReturnedFunction : Obligations.SecondCpuidRunsReturnedFunction := by
  intro s hx hfn
  have hfirst := cpuidResult_leaf0000_0000 hfn
  have hsecond : s.afterCpuid.cpuidResult = leaf s.cfg s.env s.afterCpuid.draws4 s.cfg.LFuncStd 0x444D4163 := by
    rw [State.cpuidResult, afterCpuid_eax, afterCpuid_ecx, afterCpuid_cfg, afterCpuid_env, hfirst]
  exact ⟨s.afterCpuid, s.afterCpuid.afterCpuid, exec_of_mayExecute hx,
    exec_of_mayExecute (mayExecute_of_env_eq (afterCpuid_env s) hx), hsecond ▸ holds_afterCpuid s.afterCpuid⟩

/-! ## Decoding -/

/-- The two bytes of CPUID decode whatever follows them. -/
theorem decode_cpuid (rest : List Byte) : decode (0x0F :: 0xA2 :: rest) = .ok (.cpuid, rest) := rfl

/-- What decodes begins with the two bytes of CPUID. -/
theorem decode_eq_ok {bytes : List Byte} {i : Instr} {rest : List Byte} (h : decode bytes = .ok (i, rest)) :
    bytes = 0x0F :: 0xA2 :: rest := by
  match bytes with
  | [] => cases h
  | [b0] =>
    simp only [decode] at h
    split at h <;> cases h
  | b0 :: b1 :: tail =>
    simp only [decode] at h
    split_ifs at h with _ hbytes
    obtain ⟨rfl, rfl⟩ := hbytes
    cases h
    rfl

/-- Settles O50: the decoder accepts one encoding, and accepts it before any bytes. -/
theorem decodeEncodeAgree : Obligations.DecodeEncodeAgree := by
  intro bytes i rest
  cases i
  exact ⟨decode_eq_ok, fun h => h ▸ decode_cpuid rest⟩

/-- Settles O49: the fixed words of V-G13 and V-G14, each decoded by evaluation. -/
theorem cpuidWordDecodes : Obligations.CpuidWordDecodes :=
  ⟨decode_cpuid [], rfl, rfl, rfl, rfl, rfl⟩

/-! ## One step -/

section
variable {b0 b1 : Byte}

/-- A fetch that finds both bytes gives the decoder those two. -/
theorem fetch_of_read (h0 : s.mem.read (s.fetchAddress 0) = some b0)
    (h1 : s.mem.read (s.fetchAddress 1) = some b1) : s.fetch = .ok [b0, b1] := by
  rw [fetch_eq, h0, h1]

/-- A fetch that fails at an address refuses with it (R44). -/
theorem step_of_fetch_error {a : Nat} (h : s.fetch = .error a) : step s = .refused (.textAbsent a) := by
  rw [step, h]

/-- A step whose two bytes do not decode refuses them by the decoder's reason. -/
theorem step_of_decode_error {e : DecodeError} (h0 : s.mem.read (s.fetchAddress 0) = some b0)
    (h1 : s.mem.read (s.fetchAddress 1) = some b1) (hd : decode [b0, b1] = .error e) :
    step s = .refused (refusalOf e) := by
  simp only [step, fetch_of_read h0 h1, hd]

/-- A step whose two bytes decode executes the instruction. -/
theorem step_of_decode {i : Instr} {rest : List Byte} (h0 : s.mem.read (s.fetchAddress 0) = some b0)
    (h1 : s.mem.read (s.fetchAddress 1) = some b1) (hd : decode [b0, b1] = .ok (i, rest)) : step s = exec i s := by
  simp only [step, fetch_of_read h0 h1, hd]

/-- The first byte of the fetch stands at pc. -/
theorem fetchAddress_zero (h : s.pcFits = true) : s.fetchAddress 0 = s.pc.toNat := by
  rw [State.fetchAddress, BitVec.add_zero, wrap_of_lt (of_decide_eq_true h)]

/-- The second byte of the fetch stands at pc + 1, modulo 2^W. -/
theorem fetchAddress_one (s : State) : s.fetchAddress 1 = (s.pc.toNat + 1) % 2 ^ s.ipWidth.bits := by
  simp only [State.fetchAddress, IpWidth.wrap, BitVec.toNat_setWidth, BitVec.toNat_add, BitVec.toNat_ofNat]
  cases s.ipWidth <;> simp only [IpWidth.bits] <;> omega

end

/-- Settles O47: the step of two bytes that decode, and where those bytes stand. -/
theorem stepRunsDecodedInstruction : Obligations.StepRunsDecodedInstruction :=
  fun s _ _ _ _ h0 h1 hd _ hpc => ⟨step_of_decode h0 h1 hd, fetchAddress_zero hpc, fetchAddress_one s⟩

/-- Settles O48: the fetch refuses at the first byte that is absent, the decoder by its two reasons. -/
theorem stepRefusesByName : Obligations.StepRefusesByName := by
  intro s
  refine ⟨fun h0 => ?first, fun b0 h0 h1 => ?second, fun b0 b1 h0 h1 hp => ?prefixed, fun b0 b1 h0 h1 hp hb => ?other⟩
  case first => exact step_of_fetch_error (by rw [fetch_eq, h0])
  case second => exact step_of_fetch_error (by rw [fetch_eq, h0, h1])
  case prefixed => exact step_of_decode_error h0 h1 (by rw [decode_pair, if_pos hp])
  case other =>
    exact step_of_decode_error h0 h1 (by rw [decode_pair, if_neg (Bool.not_eq_true _ ▸ hp), if_neg hb])

/-! ## Reset -/

/-- The least record is a configuration of this hardware. -/
theorem wellFormed_minimal : Cfg.minimal.wellFormed = true := by decide

/-- Whatever the free record is, the record at reset is a configuration of this hardware (R25). -/
theorem wellFormed_resetCfg : State.resetCfg.wellFormed = true := by
  rw [State.resetCfg]
  split
  next h => exact h
  next => exact wellFormed_minimal

/-- At reset `env` is legal beside any record: XCR0 is masked, and the other bits that R27, R28 and R352 restrict are
0. -/
theorem legalFor_reset (cfg : Cfg) : (Env.reset cfg).legalFor cfg = true := by
  have hxcr0 : 1#64 &&& cfg.xFeatureSupportedMask &&& ~~~cfg.xFeatureSupportedMask = 0#64 := by
    rw [BitVec.and_assoc, BitVec.and_not_self]
    exact BitVec.and_zero
  simp [Env.legalFor, Env.reset, hxcr0]

/-- Settles O52: each of the four parts of the invariant, at reset. -/
theorem resetMeetsInvariant : Obligations.ResetMeetsInvariant :=
  ⟨wf_reset, wellFormed_resetCfg, legalFor_reset State.resetCfg, rfl⟩

/-- The word of the opcode table is placed as two bytes in address order, the second after the first. -/
theorem withFetchWord_cpuid (s : State) :
    s.withFetchWord 16 0x0FA2 =
      { s with mem := (s.mem.write (s.fetchAddress 0) 0x0F).write (s.fetchAddress 1) 0xA2 } := rfl

/-- The bytes of CPUID placed at pc are what the next step fetches. -/
theorem textIsCpuid_withFetchWord (s : State) : (s.withFetchWord 16 0x0FA2).textIsCpuid := by
  rw [withFetchWord_cpuid]
  exact ⟨(Memory.read_write_other _ _ (fetchAddress_zero_ne_one s)).trans (Memory.read_write_same ..),
    Memory.read_write_same ..⟩

/-- With the bytes of CPUID at pc and 0 in EAX, a step that may execute returns function 0. -/
theorem step_function0 (htext : s.textIsCpuid) (hx : s.mayExecute) (hfn : s.readReg .eax = 0) :
    ∃ t, step s = .next t ∧ t.holds ⟨s.cfg.LFuncStd, 0x68747541, 0x444D4163, 0x69746E65⟩ := by
  obtain ⟨h0, h1⟩ := htext
  refine ⟨s.afterCpuid, (step_of_decode h0 h1 (decode_cpuid [])).trans (exec_of_mayExecute hx), ?_⟩
  rw [← cpuidResult_leaf0000_0000 hfn]
  exact holds_afterCpuid s

/-- Settles O53: after reset EAX is 0 and the facility is off, so the first CPUID completes and is function 0. -/
theorem firstCpuidAfterReset : Obligations.FirstCpuidAfterReset :=
  ⟨rfl, step_function0 (textIsCpuid_withFetchWord State.reset) (.inl rfl) rfl⟩

end Sys2Proof.Machine

/-! The dispatch of Leaf on EAX and ECX: which pairs give four draws, which functions do not look at ECX, and that the
function map and the order of tests of R75 describe the same dispatch (30_encoding.md R53, R54;
40_cpuid_instruction.md R71, R73 to R78).

`dispatchEntry` is Leaf without the range test. A pair at which it is four draws gives four draws in every range, and a
row of the map is right when it gives `dispatchEntry` at the pairs the row takes (`MapRow.Agrees`). -/

namespace Sys2Proof.Machine

/-! ## Leaf without the range test -/

/-- The entry of a function number, its gate considered and its range not. -/
def dispatchEntry (cfg : Cfg) (env : Env) (fn sub : Word) : Entry :=
  if gateOpen cfg fn then
    if fn < 0x40000000 then standardEntry cfg env fn sub
    else if fn < 0x80000000 then .draws4
    else extendedEntry cfg env fn sub
  else .draws4

section
variable {cfg : Cfg} {env : Env} {fn sub : Word}

/-- Leaf is the range test followed by the rest (R75, D24). -/
theorem leafEntry_eq_dispatchEntry :
    leafEntry cfg env fn sub = if inSupportedRange cfg fn then dispatchEntry cfg env fn sub else .draws4 := by
  by_cases hs : fn < 0x40000000
  · simp only [leafEntry, inSupportedRange, dispatchEntry, if_pos hs, decide_eq_true_eq]
    simp only [← BitVec.not_le, ite_not]
  · by_cases hm : fn < 0x80000000
    · have hm' : fn ≤ 0x7FFFFFFF := by bv_omega
      simp only [leafEntry, inSupportedRange, dispatchEntry, if_neg hs, if_pos hm, if_pos hm', ite_self]
    · have hm' : ¬fn ≤ 0x7FFFFFFF := by bv_omega
      simp only [leafEntry, inSupportedRange, dispatchEntry, if_neg hs, if_neg hm, if_neg hm', decide_eq_true_eq]
      simp only [← BitVec.not_le, ite_not]

/-- Four draws of the dispatch are four draws in every range. -/
theorem leafEntry_of_dispatchEntry_draws4 (h : dispatchEntry cfg env fn sub = .draws4) :
    leafEntry cfg env fn sub = .draws4 := by
  rw [leafEntry_eq_dispatchEntry, h, ite_self]

/-- The function numbers the source defines (R53): a row of class defined takes each of them. -/
def definedFunctions : List Word :=
  [0x00000000, 0x00000001, 0x00000005, 0x00000006, 0x00000007, 0x0000000B, 0x0000000D, 0x0000000F, 0x00000010,
    0x80000000, 0x80000001, 0x80000002, 0x80000003, 0x80000004, 0x80000005, 0x80000006, 0x80000007, 0x80000008,
    0x8000000A, 0x80000019, 0x8000001A, 0x8000001B, 0x8000001C, 0x8000001D, 0x8000001E, 0x8000001F, 0x80000020,
    0x80000021, 0x80000022, 0x80000023, 0x80000025, 0x80000026]

/-- Every other function number gives four draws (R75, D6). -/
theorem dispatchEntry_of_undefined (h : fn ∉ definedFunctions) : dispatchEntry cfg env fn sub = .draws4 := by
  simp only [definedFunctions, List.mem_cons, List.not_mem_nil, or_false, not_or] at h
  simp only [dispatchEntry, standardEntry, extendedEntry, h, if_false, ite_self]

/-! ## Subfunctions and gates of subfunctions -/

/-- Subfunction 0 of function 7 (R123). -/
theorem leaf0000_0007_sub0 : leaf0000_0007 cfg env 0 = leaf0000_0007_x0 cfg env 0 := rfl

/-- Subfunction 1 of function 7, where it is supported (R123). -/
theorem leaf0000_0007_sub1 (h : 1 ≤ cfg.Fn7_MaxSubFn) : leaf0000_0007 cfg env 1 = leaf0000_0007_x1 cfg env 1 := by
  rw [leaf0000_0007, if_neg (by decide), if_pos ⟨rfl, h⟩]

/-- The subfunctions of function 7 that the source passes over (R133, D10). -/
theorem leaf0000_0007_of_other (h : 2 ≤ sub ∨ sub = 1 ∧ cfg.Fn7_MaxSubFn = 0) :
    leaf0000_0007 cfg env sub = .draws4 := by
  have h0 : sub ≠ 0 := by bv_omega
  have h1 : ¬(sub = 1 ∧ 1 ≤ cfg.Fn7_MaxSubFn) := by bv_omega
  rw [leaf0000_0007, if_neg h0, if_neg h1]

/-- Level 1 of a hierarchy of two is the core level (R142, R147). -/
theorem leaf0000_000B_of_core (h : 2 ≤ cfg.FnB_Levels) : leaf0000_000B cfg env 1 = leaf0000_000B_x1 cfg env 1 := by
  rw [leaf0000_000B, if_neg (fun ⟨h10, _⟩ => absurd h10 (by decide)), if_pos ⟨rfl, h⟩]

/-- An undescribed subfunction of function Dh gives four draws (R150, D9). -/
theorem leaf0000_000D_of_undescribed (h2 : 2 ≤ sub) (h3E : sub ≤ 0x3E) (hc : cfg.fnDClass sub = .undescribed) :
    leaf0000_000D cfg env sub = .draws4 := by
  obtain ⟨h0, h1, hle⟩ := component_subfunction h2 h3E
  rw [leaf0000_000D, if_neg h0, if_neg h1, if_neg hle, hc]

/-- A subfunction of function Dh that the source does not describe has no entry even where the record calls it
implemented, as no record of this hardware does (R150). -/
theorem leaf0000_000D_implemented_of_notDescribed (h : sub.toNat ∉ describedSubfunctions) :
    leaf0000_000D_implemented cfg env sub = .draws4 := by
  simp only [describedSubfunctions, List.mem_cons, List.not_mem_nil, or_false, not_or] at h
  obtain ⟨h2, hB, hC, h3E⟩ := h
  rw [leaf0000_000D_implemented, if_neg (by bv_omega), if_neg (by bv_omega), if_neg (by bv_omega),
    if_neg (by bv_omega)]

/-- Subfunction 0 of function Fh selects the capabilities (R171). -/
theorem leaf0000_000F_sub0 : leaf0000_000F cfg env 0 = leaf0000_000F_x0 cfg env 0 := rfl

/-- Subfunction 1 of function Fh selects L3 monitoring (R172). -/
theorem leaf0000_000F_sub1 : leaf0000_000F cfg env 1 = leaf0000_000F_x1 cfg env 1 := rfl

/-- Subfunction 0 of function 10h selects the capabilities (R176). -/
theorem leaf0000_0010_sub0 : leaf0000_0010 cfg env 0 = leaf0000_0010_x0 cfg env 0 := rfl

/-- Subfunction 1 of function 10h selects L3 allocation (R177). -/
theorem leaf0000_0010_sub1 : leaf0000_0010 cfg env 1 = leaf0000_0010_x1 cfg env 1 := rfl

/-- A number above 1 is neither of the two described subfunctions of functions Fh and 10h. -/
theorem ne_of_two_le (h : 2 ≤ sub) : sub ≠ 0 ∧ sub ≠ 1 := ⟨by bv_omega, by bv_omega⟩

/-- The subfunctions of function Fh that the source passes over (R173, D11). -/
theorem leaf0000_000F_of_other (h : 2 ≤ sub) : leaf0000_000F cfg env sub = .draws4 := by
  obtain ⟨h0, h1⟩ := ne_of_two_le h
  rw [leaf0000_000F, if_neg h0, if_neg h1]

/-- The subfunctions of function 10h that the source passes over (R178, D11). -/
theorem leaf0000_0010_of_other (h : 2 ≤ sub) : leaf0000_0010 cfg env sub = .draws4 := by
  obtain ⟨h0, h1⟩ := ne_of_two_le h
  rw [leaf0000_0010, if_neg h0, if_neg h1]

/-- The subfunctions of function 8000_0020h that the source passes over (R306, D11). -/
theorem leaf8000_0020_of_other (h : sub = 4 ∨ 6 ≤ sub) : leaf8000_0020 cfg env sub = .draws4 := by
  rw [leaf8000_0020, if_neg (by bv_omega), if_neg (by bv_omega), if_neg (by bv_omega), if_neg (by bv_omega),
    if_neg (by bv_omega)]

/-- The number of an enumerated level selects that level (R331). -/
theorem leaf8000_0026_of_level {l : Record.Level} (h : cfg.Fn8000_0026_x[sub.toNat]? = some l) :
    leaf8000_0026 cfg env sub = leaf8000_0026_level cfg env sub l := by
  rw [leaf8000_0026, h]

/-- A number that is not below the number of levels selects the end (R337). -/
theorem leaf8000_0026_of_noLevel (h : cfg.NumTopoLevels ≤ sub.toNat) :
    leaf8000_0026 cfg env sub = leaf8000_0026_end sub := by
  rw [leaf8000_0026, List.getElem?_eq_none h]

/-- A gate whose bit is 0 is closed. -/
theorem gateBit_closed {b : BitVec 1} (h : b = 0) : (b == 1) = false := h ▸ rfl

/-- The two ways to test a gate's bit (R78, R300). -/
theorem ite_gateBit (b : BitVec 1) (e : Entry) :
    (if b = 0 then .draws4 else e) = if (b == 1) = true then e else .draws4 := by
  obtain rfl | rfl : b = 0 ∨ b = 1 := by bv_omega
  · rfl
  · rfl

end

/-! ## Four draws -/

section
variable {s : State}

/-- A pair whose entry is four draws makes CPUID return the draws of the execution. -/
theorem returnsDraws_of_leafEntry (hx : s.mayExecute)
    (h : leafEntry s.cfg s.env (s.readReg .eax) (s.readReg .ecx) = .draws4) : s.returnsDraws :=
  have hresult : s.cpuidResult = s.draws4 := cpuidResult_of_entry h
  ⟨s.afterCpuid, exec_of_mayExecute hx, hresult ▸ holds_afterCpuid s⟩

/-- The same from the dispatch at known inputs, whatever the range. -/
theorem returnsDraws_of_dispatchEntry {fn : Word} (hx : s.mayExecute) (hfn : s.readReg .eax = fn)
    (h : dispatchEntry s.cfg s.env fn (s.readReg .ecx) = .draws4) : s.returnsDraws :=
  returnsDraws_of_leafEntry hx (hfn ▸ leafEntry_of_dispatchEntry_draws4 h)

/-- The same from a closed gate. -/
theorem returnsDraws_of_gate {fn : Word} (hx : s.mayExecute) (hfn : s.readReg .eax = fn)
    (h : gateOpen s.cfg fn = false) : s.returnsDraws :=
  returnsDraws_of_leafEntry hx (hfn ▸ leafEntry_gated h)

end

/-- No defined function number is reserved, the hypervisor's or undescribed. -/
theorem definedFunctions_described :
    (definedFunctions.all fun fn => !(isReservedFunction fn || isHypervisorFunction fn || isUndescribedFunction fn)) =
      true := by
  decide

/-- Settles O9: such a number is none of the defined ones, and every other number gives four draws. -/
theorem reservedFunctionsReturnDraws : Obligations.ReservedFunctionsReturnDraws := by
  intro s hx hfn
  refine returnsDraws_of_dispatchEntry hx rfl (dispatchEntry_of_undefined fun hmem => ?_)
  have hnone := List.all_eq_true.mp definedFunctions_described _ hmem
  simp only [Bool.not_eq_true', Bool.or_eq_false_iff, and_assoc] at hnone
  obtain ⟨hr, hh, hu⟩ := hnone
  simp only [hr, hh, hu, Bool.false_eq_true, or_self] at hfn

/-- Settles O10: the range test comes before the gate. -/
theorem outOfRangeFunctionsReturnDraws : Obligations.OutOfRangeFunctionsReturnDraws := by
  rintro s hx (⟨hs, hr⟩ | ⟨hs, hr⟩)
  · exact returnsDraws_of_leafEntry hx (leafEntry_above_standard hs hr)
  · exact returnsDraws_of_leafEntry hx (leafEntry_above_extended hs hr)

/-- Settles O11: seven gates close a whole function, four a subfunction of 8000_0020h. -/
theorem closedGatesReturnDraws : Obligations.ClosedGatesReturnDraws := by
  rintro s hx (⟨hfn, h⟩ | ⟨hfn, h⟩ | ⟨hfn, h⟩ | ⟨hfn, h⟩ | ⟨hfn, h⟩ | ⟨hfn, h⟩ | ⟨hfn, h⟩ | ⟨hfn, hsub, h⟩ |
    ⟨hfn, hsub, h⟩ | ⟨hfn, hsub, h⟩ | ⟨hfn, hsub, h⟩)
  iterate 7 exact returnsDraws_of_gate hx hfn (gateBit_closed h)
  iterate 4 exact returnsDraws_of_dispatchEntry hx hfn (hsub ▸ if_pos h)

/-- Settles O12: ECX selects four draws by its whole value, function by function; the gates of Fh and 10h change
nothing. -/
theorem otherSubfunctionsReturnDraws : Obligations.OtherSubfunctionsReturnDraws := by
  rintro s hx (⟨hfn, hsub⟩ | ⟨hfn | hfn, hsub⟩ | ⟨hfn, hsub⟩ | ⟨hfn, h2, h3E, hc⟩)
  · exact returnsDraws_of_dispatchEntry hx hfn (leaf0000_0007_of_other hsub)
  · exact returnsDraws_of_dispatchEntry hx hfn ((if_congr Iff.rfl (leaf0000_000F_of_other hsub) rfl).trans (ite_self _))
  · exact returnsDraws_of_dispatchEntry hx hfn ((if_congr Iff.rfl (leaf0000_0010_of_other hsub) rfl).trans (ite_self _))
  · exact returnsDraws_of_dispatchEntry hx hfn (leaf8000_0020_of_other hsub)
  · exact returnsDraws_of_dispatchEntry hx hfn (leaf0000_000D_of_undescribed h2 h3E hc)

/-! ## Functions without a subfunction -/

/-- A function that takes no subfunction has one entry for every ECX (R71, D7). -/
theorem dispatchEntry_ignores_ecx {cfg : Cfg} {env : Env} {fn : Word} (h : fn ∉ subfunctionFunctions)
    (sub sub' : Word) : dispatchEntry cfg env fn sub = dispatchEntry cfg env fn sub' := by
  simp only [subfunctionFunctions, List.mem_cons, List.not_mem_nil, or_false, not_or] at h
  simp only [dispatchEntry, standardEntry, extendedEntry, h, if_false]
  rfl

/-- Settles O7: one entry, filled with equal draws. -/
theorem ecxIgnoredWithoutSubfunction : Obligations.EcxIgnoredWithoutSubfunction := by
  intro s s' hx hfn heax hcfg henv hd
  refine exec_pair_of_result_eq hx henv ?_
  simp only [State.cpuidResult, leaf, leafEntry_eq_dispatchEntry, hcfg, henv, heax, draws4_congr hd,
    dispatchEntry_ignores_ecx hfn (s'.readReg .ecx) (s.readReg .ecx)]

end Sys2Proof.Machine

/-! The function map (30_encoding.md R53): exactly one row takes each pair of inputs, and that row gives Leaf's entry.

The rows of one range of function numbers stand together, and the ranges tile the numbers from 0 to FFFF_FFFFh. So a
function number meets the rows of one group only, and of those the subfunction selects exactly one: one lemma for each
way in which rows share the subfunctions. Every row agrees with the dispatch of Leaf on the pairs it takes. -/

namespace Sys2Proof.Machine

/-! ## Rows that share a function -/

section
variable (cfg : Cfg) (sub : Word)

/-- Function 7: subfunction 1 belongs to one row or the other by `Fn7_MaxSubFn` (R123, R133). -/
theorem countP_fn7 : [SubSelector.exactly 0, .fn7Supported, .fn7Other].countP (·.selects cfg sub) = 1 := by
  simp only [List.countP_cons, List.countP_nil, SubSelector.selects, Bool.and_eq_true, Bool.or_eq_true, beq_iff_eq,
    decide_eq_true_eq]
  split_ifs <;> bv_omega

/-- Function Bh: the implemented levels, of which there are two at most, and the rest (R142). -/
theorem countP_fnB : [SubSelector.fnBLevel 0, .fnBLevel 1, .fnBUnimplemented].countP (·.selects cfg sub) = 1 := by
  simp only [List.countP_cons, List.countP_nil, SubSelector.selects, Bool.and_eq_true, beq_iff_eq, decide_eq_true_eq,
    Fin.val_zero, Fin.val_one]
  split_ifs <;> omega

/-- The class parameter has no value above 3Eh (R150). -/
theorem fnDClass_of_above {cfg : Cfg} {sub : Word} (h : 0x3E < sub) : cfg.fnDClass sub = .unimplemented :=
  dif_neg fun ⟨_, hle⟩ => absurd hle (by bv_omega)

/-- Function Dh: between 02h and 3Eh the class decides, and of an implemented subfunction whether the source describes
it (R149 to R151, R168). -/
theorem countP_fnD :
    [SubSelector.exactly 0, .exactly 1, .fnDImplemented 0x02, .fnDImplemented 0x0B, .fnDImplemented 0x0C,
      .fnDImplemented 0x3E, .fnDUnimplemented, .fnDAbove, .fnDUndescribed].countP (·.selects cfg sub) = 1 := by
  obtain rfl | rfl | habove | ⟨h2, h3E⟩ : sub = 0 ∨ sub = 1 ∨ 0x3E < sub ∨ 2 ≤ sub ∧ sub ≤ 0x3E := by bv_omega
  case inl => rfl
  case inr.inl => rfl
  case inr.inr.inl =>
    have h0 : sub ≠ 0 := by bv_omega
    have h1 : sub ≠ 1 := by bv_omega
    simp only [List.countP_cons, List.countP_nil, SubSelector.selects, beq_false_of_ne h0, beq_false_of_ne h1, habove,
      BitVec.not_le.mpr habove, fnDClass_of_above habove]
    simp
  case inr.inr.inr =>
    obtain ⟨h0, h1, habove⟩ := component_subfunction h2 h3E
    simp only [List.countP_cons, List.countP_nil, SubSelector.selects, h2, h3E, habove, beq_false_of_ne h0,
      beq_false_of_ne h1]
    cases cfg.fnDClass sub
    case unimplemented => simp
    case undescribed => simp
    case implemented =>
      simp only [describedSubfunctions, List.mem_cons, List.not_mem_nil, or_false, Bool.and_eq_true, Bool.or_eq_true,
        Bool.not_eq_true', Bool.false_eq_true, beq_iff_eq, decide_eq_true_eq, decide_eq_false_iff_not, reduceCtorEq,
        true_and, and_true, and_false, false_or, if_false]
      split_ifs <;> bv_omega

/-- Functions Fh and 10h: the two described subfunctions and the rest (R170, R175). -/
theorem countP_twoAndAbove : [SubSelector.exactly 0, .exactly 1, .atLeast 2].countP (·.selects cfg sub) = 1 := by
  simp only [List.countP_cons, List.countP_nil, SubSelector.selects, beq_iff_eq, decide_eq_true_eq]
  split_ifs <;> bv_omega

/-- Function 8000_001Dh: the enumerated caches and the numbers past them (R281, R287). -/
theorem countP_caches : [SubSelector.cache, .noCache].countP (·.selects cfg sub) = 1 := by
  simp only [List.countP_cons, List.countP_nil, SubSelector.selects, decide_eq_true_eq]
  split_ifs <;> omega

/-- Function 8000_0020h: six subfunctions and the rest (R300, R306). -/
theorem countP_sixAndAbove :
    [SubSelector.exactly 0, .exactly 1, .exactly 2, .exactly 3, .exactly 4, .exactly 5, .atLeast 6].countP
      (·.selects cfg sub) = 1 := by
  obtain h | rfl | rfl | rfl | rfl | rfl | rfl :
    6 ≤ sub ∨ sub = 0 ∨ sub = 1 ∨ sub = 2 ∨ sub = 3 ∨ sub = 4 ∨ sub = 5 := by bv_omega
  case inl =>
    simp only [List.countP_cons, List.countP_nil, SubSelector.selects, beq_iff_eq, decide_eq_true_eq]
    rw [if_pos h, if_neg (by bv_omega), if_neg (by bv_omega), if_neg (by bv_omega), if_neg (by bv_omega),
      if_neg (by bv_omega), if_neg (by bv_omega)]
  all_goals rfl

/-- Function 8000_0026h: the enumerated levels and the numbers past them (R331, R337). -/
theorem countP_levels : [SubSelector.level, .noLevel].countP (·.selects cfg sub) = 1 := by
  simp only [List.countP_cons, List.countP_nil, SubSelector.selects, decide_eq_true_eq]
  split_ifs <;> omega

/-- The ways in which the rows of one range of function numbers share the subfunctions. -/
def subPartitions : List (List SubSelector) :=
  [[.any], [.exactly 0, .fn7Supported, .fn7Other], [.fnBLevel 0, .fnBLevel 1, .fnBUnimplemented],
    [.exactly 0, .exactly 1, .fnDImplemented 0x02, .fnDImplemented 0x0B, .fnDImplemented 0x0C, .fnDImplemented 0x3E,
      .fnDUnimplemented, .fnDAbove, .fnDUndescribed],
    [.exactly 0, .exactly 1, .atLeast 2], [.cache, .noCache],
    [.exactly 0, .exactly 1, .exactly 2, .exactly 3, .exactly 4, .exactly 5, .atLeast 6], [.level, .noLevel]]

/-- In each of these ways exactly one row takes a subfunction. -/
theorem countP_subPartition : ∀ p ∈ subPartitions, p.countP (·.selects cfg sub) = 1 := by
  simp only [subPartitions, List.forall_mem_cons]
  exact ⟨rfl, countP_fn7 cfg sub, countP_fnB cfg sub, countP_fnD cfg sub, countP_twoAndAbove cfg sub,
    countP_caches cfg sub, countP_sixAndAbove cfg sub, countP_levels cfg sub, List.forall_mem_nil _⟩

end

/-! ## Ranges of function numbers -/

/-- The rows have the same range of function numbers. -/
def MapRow.sameFunctions (r r' : MapRow) : Bool := r'.fnFirst == r.fnFirst && r'.fnLast == r.fnLast

/-- The rows of the map, those of one range of function numbers together. -/
def functionGroups : List (List MapRow) := functionMap.splitBy MapRow.sameFunctions

theorem flatten_functionGroups : functionGroups.flatten = functionMap := List.flatten_splitBy ..

/-- The ranges of the groups follow each other without a gap or an overlap, from `first` up to the last number. -/
def tileFrom (first : Nat) : List (List MapRow) → Bool
  | [] => first == 2 ^ 32
  | [] :: _ => false
  | (r :: g) :: gs =>
    r.fnFirst.toNat == first && decide (first ≤ r.fnLast.toNat) && g.all r.sameFunctions &&
      tileFrom (r.fnLast.toNat + 1) gs

theorem tileFrom_functionGroups : tileFrom 0 functionGroups = true := by decide

theorem sub_mem_subPartitions : (functionGroups.all fun g => decide (g.map MapRow.sub ∈ subPartitions)) = true := by
  decide

section
variable {cfg : Cfg} {fn sub : Word}

/-- In a group the subfunction selects one row, when the function number lies in the group's range. -/
theorem countP_group {r : MapRow} {g : List MapRow} (hsame : g.all r.sameFunctions = true)
    (hsub : (r :: g).map MapRow.sub ∈ subPartitions) :
    (r :: g).countP (MapRow.selects cfg fn sub) = if r.fnFirst ≤ fn ∧ fn ≤ r.fnLast then 1 else 0 := by
  have hrange : ∀ r' ∈ r :: g, r'.fnFirst = r.fnFirst ∧ r'.fnLast = r.fnLast := by
    rw [List.forall_mem_cons]
    exact ⟨⟨rfl, rfl⟩, fun r' hr' => by simpa [MapRow.sameFunctions] using List.all_eq_true.mp hsame r' hr'⟩
  split
  next hin =>
    rw [← countP_subPartition cfg sub _ hsub, List.countP_map]
    refine List.countP_congr fun r' hr' => ?_
    obtain ⟨hfirst, hlast⟩ := hrange r' hr'
    simp [MapRow.selects, hfirst, hlast, hin]
  next hout =>
    rw [List.countP_eq_zero]
    intro r' hr'
    obtain ⟨hfirst, hlast⟩ := hrange r' hr'
    simp only [MapRow.selects, hfirst, hlast, Bool.and_eq_true, decide_eq_true_eq]
    exact fun ⟨hin, _⟩ => hout hin

/-- Of groups that tile the numbers from `first` on, exactly one row takes a pair from there on, and none one before. -/
theorem countP_flatten_of_tileFrom {gs : List (List MapRow)}
    (hsub : ∀ g ∈ gs, g.map MapRow.sub ∈ subPartitions) {first : Nat} (htile : tileFrom first gs = true) :
    gs.flatten.countP (MapRow.selects cfg fn sub) = if first ≤ fn.toNat then 1 else 0 := by
  induction gs generalizing first with
  | nil =>
    have hend : first = 2 ^ 32 := by simpa [tileFrom] using htile
    rw [if_neg (by have := fn.isLt; omega)]
    rfl
  | cons g gs ih =>
    obtain ⟨hg, hgs⟩ := List.forall_mem_cons.mp hsub
    match g with
    | [] => simp [tileFrom] at htile
    | r :: g =>
      simp only [tileFrom, Bool.and_eq_true, beq_iff_eq, decide_eq_true_eq] at htile
      obtain ⟨⟨⟨hfirst, hle⟩, hsame⟩, hrest⟩ := htile
      rw [List.flatten_cons, List.countP_append, countP_group hsame hg, ih hgs hrest]
      simp only [BitVec.le_def]
      split_ifs <;> omega

/-- Exactly one row of the map takes a pair. -/
theorem countP_functionMap (cfg : Cfg) (fn sub : Word) : functionMap.countP (MapRow.selects cfg fn sub) = 1 := by
  have hsub : ∀ g ∈ functionGroups, g.map MapRow.sub ∈ subPartitions := fun g hg =>
    of_decide_eq_true (List.all_eq_true.mp sub_mem_subPartitions g hg)
  rw [← flatten_functionGroups, countP_flatten_of_tileFrom hsub tileFrom_functionGroups, if_pos (Nat.zero_le _)]

end

/-- Settles O54: the ranges of function numbers tile all numbers, and each group's rows share the subfunctions. -/
theorem functionMapPartitions : Obligations.FunctionMapPartitions := fun cfg fn sub => by
  rw [← List.countP_eq_length_filter, countP_functionMap]

end Sys2Proof.Machine

/-! Every row of the function map gives the entry that Leaf's order of tests gives (30_encoding.md R53;
40_cpuid_instruction.md R75, R78). The ways in which a row can take its pairs, one function or a range of them, any
subfunction or one or some, have a lemma each; then the map is read row by row. -/

namespace Sys2Proof.Machine

/-- On the pairs the row takes, the dispatch gives the row's entry when the row's gate is open, else four draws. -/
def MapRow.Agrees (r : MapRow) : Prop :=
  ∀ (cfg : Cfg) (env : Env) (fn sub : Word), r.selects cfg fn sub = true →
    dispatchEntry cfg env fn sub = if r.gate.isOpen cfg then r.entry cfg env fn sub else .draws4

section
variable {fn first last : Word} {sel : SubSelector} {cls : RowClass} {gate : Gate} {rule : Nat}
  {entry : Cfg → Env → Word → Word → Entry}

/-- A row that takes one function number agrees when it does at that number. -/
theorem agrees_of_one
    (h : ∀ cfg env sub, sel.selects cfg sub = true →
      dispatchEntry cfg env fn sub = if gate.isOpen cfg then entry cfg env fn sub else .draws4) :
    MapRow.Agrees ⟨fn, fn, sel, cls, gate, rule, entry⟩ := by
  intro cfg env fn' sub hsel
  simp only [MapRow.selects, Bool.and_eq_true, decide_eq_true_eq] at hsel
  obtain ⟨⟨hge, hle⟩, hsub⟩ := hsel
  obtain rfl : fn' = fn := BitVec.le_antisymm hle hge
  exact h cfg env sub hsub

/-- A row that takes one pair agrees when it does there. -/
theorem agrees_of_exactly {n : Word}
    (h : ∀ cfg env, dispatchEntry cfg env fn n = if gate.isOpen cfg then entry cfg env fn n else .draws4) :
    MapRow.Agrees ⟨fn, fn, .exactly n, cls, gate, rule, entry⟩ :=
  agrees_of_one fun cfg env _ hsub => beq_iff_eq.mp hsub ▸ h cfg env

/-- A row of four draws that takes no defined function number agrees. -/
theorem agrees_draws (h : (definedFunctions.all fun f => decide (f < first ∨ last < f)) = true) :
    MapRow.Agrees ⟨first, last, .any, cls, .none, rule, drawsRow⟩ := by
  intro cfg env fn sub hsel
  simp only [MapRow.selects, Bool.and_eq_true, decide_eq_true_eq] at hsel
  obtain ⟨⟨hge, hle⟩, -⟩ := hsel
  refine dispatchEntry_of_undefined fun hmem => ?_
  have hout := of_decide_eq_true (List.all_eq_true.mp h fn hmem)
  bv_omega

end

/-- A row of function Dh for one implemented subfunction agrees (R149). -/
theorem agrees_fnDImplemented {n : Word} {e : Cfg → Env → Word → Entry} {rule : Nat} (h2 : 2 ≤ n) (h3E : n ≤ 0x3E)
    (he : ∀ cfg env, leaf0000_000D_implemented cfg env n = e cfg env n) :
    MapRow.Agrees ⟨0x0000000D, 0x0000000D, .fnDImplemented n, .defined, .none, rule, leafRow e⟩ :=
  agrees_of_one fun cfg env sub hsub => by
    simp only [SubSelector.selects, Bool.and_eq_true, beq_iff_eq] at hsub
    obtain ⟨rfl, hc⟩ := hsub
    exact (leaf0000_000D_of_implemented h2 h3E hc).trans (he cfg env)

/-- The row of a level of function Bh takes that level, where it is implemented (R142). -/
theorem fnBLevel_selects {cfg : Cfg} {sub : Word} {n : Fin 2} (h : (SubSelector.fnBLevel n).selects cfg sub = true) :
    sub.toNat = n.val ∧ n.val < cfg.FnB_Levels.val := by
  simpa only [SubSelector.selects, Bool.and_eq_true, beq_iff_eq, decide_eq_true_eq] using h

/-- The subfunctions of function Dh that the undescribed row takes give four draws (R150). -/
theorem leaf0000_000D_of_fnDUndescribed {cfg : Cfg} {env : Env} {sub : Word}
    (h : SubSelector.fnDUndescribed.selects cfg sub = true) : leaf0000_000D cfg env sub = .draws4 := by
  simp only [SubSelector.selects, Bool.and_eq_true, Bool.or_eq_true, Bool.not_eq_true', beq_iff_eq,
    decide_eq_true_eq, decide_eq_false_iff_not] at h
  obtain ⟨⟨h2, h3E⟩, hc | ⟨hc, hnot⟩⟩ := h
  · exact leaf0000_000D_of_undescribed h2 h3E hc
  · exact (leaf0000_000D_of_implemented h2 h3E hc).trans (leaf0000_000D_implemented_of_notDescribed hnot)

/-- Each function of the name string has its own piece in the row of the three (R213). -/
theorem dispatchEntry_name (cfg : Cfg) (env : Env) (sub : Word) :
    ∀ k : Fin 3, dispatchEntry cfg env (0x80000002 + BitVec.ofNat 32 k) sub =
      nameRow cfg env (0x80000002 + BitVec.ofNat 32 k) sub
  | 0 => rfl
  | 1 => rfl
  | 2 => rfl

/-- The row of the name string, which takes three function numbers, agrees (R213). -/
theorem agrees_names : MapRow.Agrees ⟨0x80000002, 0x80000004, .any, .defined, .none, 213, nameRow⟩ := by
  intro cfg env fn sub hsel
  simp only [MapRow.selects, Bool.and_eq_true, decide_eq_true_eq] at hsel
  obtain ⟨⟨hge, hle⟩, -⟩ := hsel
  obtain ⟨k, rfl, -⟩ := exists_nameFunction hge hle
  exact dispatchEntry_name cfg env sub k

theorem agrees_standardRows : ∀ r ∈ standardRows, r.Agrees := by
  simp only [standardRows, List.forall_mem_cons]
  exact ⟨
    agrees_of_one fun _ _ _ _ => rfl,
    agrees_of_one fun _ _ _ _ => rfl,
    agrees_draws (by decide),
    agrees_of_one fun _ _ _ _ => rfl,
    agrees_of_one fun _ _ _ _ => rfl,
    -- function 7
    agrees_of_exactly fun _ _ => rfl,
    agrees_of_one fun cfg env sub hsub => by
      simp only [SubSelector.selects, Bool.and_eq_true, beq_iff_eq, decide_eq_true_eq] at hsub
      obtain ⟨rfl, hmax⟩ := hsub
      exact leaf0000_0007_sub1 hmax,
    agrees_of_one fun _ _ _ hsub => leaf0000_0007_of_other <| by
      simpa only [SubSelector.selects, Bool.or_eq_true, Bool.and_eq_true, beq_iff_eq, decide_eq_true_eq] using hsub,
    agrees_draws (by decide),
    -- function Bh
    agrees_of_one fun cfg env sub hsub => by
      obtain ⟨hzero, hlevel⟩ := fnBLevel_selects hsub
      obtain rfl : sub = 0 := BitVec.eq_of_toNat_eq hzero
      exact leaf0000_000B_of_thread (Fin.le_def.mpr hlevel),
    agrees_of_one fun cfg env sub hsub => by
      obtain ⟨hone, hlevel⟩ := fnBLevel_selects hsub
      obtain rfl : sub = 1 := BitVec.eq_of_toNat_eq hone
      exact leaf0000_000B_of_core (Fin.le_def.mpr hlevel),
    agrees_of_one fun _ _ _ hsub => leaf0000_000B_of_unimplemented (of_decide_eq_true hsub),
    agrees_draws (by decide),
    -- function Dh
    agrees_of_exactly fun _ _ => rfl,
    agrees_of_exactly fun _ _ => rfl,
    agrees_fnDImplemented (by decide) (by decide) fun _ _ => rfl,
    agrees_fnDImplemented (by decide) (by decide) fun _ _ => rfl,
    agrees_fnDImplemented (by decide) (by decide) fun _ _ => rfl,
    agrees_fnDImplemented (by decide) (by decide) fun _ _ => rfl,
    agrees_of_one fun cfg env sub hsub => by
      simp only [SubSelector.selects, Bool.and_eq_true, beq_iff_eq, decide_eq_true_eq] at hsub
      obtain ⟨⟨h2, h3E⟩, hc⟩ := hsub
      exact leaf0000_000D_of_unimplemented h2 h3E hc,
    agrees_of_one fun _ _ _ hsub => leaf0000_000D_of_above (of_decide_eq_true hsub),
    agrees_of_one fun _ _ _ hsub => leaf0000_000D_of_fnDUndescribed hsub,
    agrees_draws (by decide),
    -- function Fh
    agrees_of_exactly fun _ _ => rfl,
    agrees_of_exactly fun _ _ => rfl,
    agrees_of_one fun _ _ _ hsub => if_congr Iff.rfl (leaf0000_000F_of_other (of_decide_eq_true hsub)) rfl,
    -- function 10h
    agrees_of_exactly fun _ _ => rfl,
    agrees_of_exactly fun _ _ => rfl,
    agrees_of_one fun _ _ _ hsub => if_congr Iff.rfl (leaf0000_0010_of_other (of_decide_eq_true hsub)) rfl,
    agrees_draws (by decide),
    List.forall_mem_nil _⟩

theorem agrees_middleRows : ∀ r ∈ middleRows, r.Agrees := by
  simp only [middleRows, List.forall_mem_cons]
  exact ⟨agrees_draws (by decide), agrees_draws (by decide), List.forall_mem_nil _⟩

theorem agrees_extendedRows : ∀ r ∈ extendedRows, r.Agrees := by
  simp only [extendedRows, List.forall_mem_cons]
  exact ⟨
    agrees_of_one fun _ _ _ _ => rfl,
    agrees_of_one fun _ _ _ _ => rfl,
    agrees_names,
    agrees_of_one fun _ _ _ _ => rfl,
    agrees_of_one fun _ _ _ _ => rfl,
    agrees_of_one fun _ _ _ _ => rfl,
    agrees_of_one fun _ _ _ _ => rfl,
    agrees_draws (by decide),
    agrees_of_one fun _ _ _ _ => rfl,
    agrees_draws (by decide),
    agrees_of_one fun _ _ _ _ => rfl,
    agrees_of_one fun _ _ _ _ => rfl,
    agrees_of_one fun _ _ _ _ => rfl,
    agrees_of_one fun _ _ _ _ => rfl,
    agrees_of_one fun _ _ _ _ => rfl,
    agrees_of_one fun _ _ _ hsub => if_congr Iff.rfl (leaf8000_001D_of_noCache (of_decide_eq_true hsub)) rfl,
    agrees_of_one fun _ _ _ _ => rfl,
    agrees_of_one fun _ _ _ _ => rfl,
    agrees_of_exactly fun _ _ => rfl,
    agrees_of_exactly fun _ _ => ite_gateBit ..,
    agrees_of_exactly fun _ _ => ite_gateBit ..,
    agrees_of_exactly fun _ _ => ite_gateBit ..,
    agrees_of_exactly fun _ _ => rfl,
    agrees_of_exactly fun _ _ => ite_gateBit ..,
    agrees_of_one fun _ _ _ hsub => leaf8000_0020_of_other (.inr (of_decide_eq_true hsub)),
    agrees_of_one fun _ _ _ _ => rfl,
    agrees_of_one fun _ _ _ _ => rfl,
    agrees_of_one fun _ _ _ _ => rfl,
    agrees_draws (by decide),
    agrees_of_one fun _ _ _ _ => rfl,
    agrees_of_one fun _ _ _ _ => rfl,
    agrees_of_one fun _ _ _ hsub => leaf8000_0026_of_noLevel (of_decide_eq_true hsub),
    agrees_draws (by decide),
    List.forall_mem_nil _⟩

/-- Every row of the map agrees with the dispatch. -/
theorem agrees_functionMap : ∀ r ∈ functionMap, r.Agrees :=
  List.forall_mem_append.mpr
    ⟨List.forall_mem_append.mpr ⟨agrees_standardRows, agrees_middleRows⟩, agrees_extendedRows⟩

/-- Some row takes each pair. -/
theorem exists_find_functionMap (cfg : Cfg) (fn sub : Word) :
    ∃ r, functionMap.find? (MapRow.selects cfg fn sub) = some r := by
  have hone : 0 < functionMap.countP (MapRow.selects cfg fn sub) := by
    rw [countP_functionMap]
    exact Nat.one_pos
  rw [← Option.isSome_iff_exists, List.find?_isSome]
  exact List.countP_pos_iff.mp hone

/-- Settles O55: the row that takes the pair agrees with the dispatch, and both sides make the same range test. -/
theorem leafFollowsFunctionMap : Obligations.LeafFollowsFunctionMap := by
  intro cfg env fn sub
  obtain ⟨r, hr⟩ := exists_find_functionMap cfg fn sub
  have hagrees := agrees_functionMap r (List.mem_of_find?_eq_some hr) cfg env fn sub (List.find?_some hr)
  simp only [entryByMap, hr, leafEntry_eq_dispatchEntry, hagrees, Bool.and_eq_true, ite_and]

end Sys2Proof.Machine

/-! The remaining functions return the fields of their entries: 1h, 7h, Bh, Dh, Fh and 10h, 8000_0001h, 8000_0008h,
8000_001Ch and 8000_0026h; the bits that functions 1 and 8000_0001h share; and the entries of the L2 TLBs.

As in the earlier parts, one execution shows the fields of the entry that EAX and ECX select
(`exec_standard_showsFields`, `exec_extended_showsFields`), and each statement reads off its own lists. -/

namespace Sys2Proof.Machine

/-! ## The shapes of the entries -/

section
variable {cfg : Cfg}

/-- The gate of function Fh is the PQM bit (R170). -/
theorem gateOpen_0000_000F_iff : gateOpen cfg 0x0000000F = true ↔ cfg.Fn0000_0007_EBX_x0.PQM = 1 := beq_iff_eq

/-- The gate of function 10h is the PQE bit (R175). -/
theorem gateOpen_0000_0010_iff : gateOpen cfg 0x00000010 = true ↔ cfg.Fn0000_0007_EBX_x0.PQE = 1 := beq_iff_eq

/-- The gate of function 8000_001Ch is the LWP bit (R267). -/
theorem gateOpen_8000_001C_iff : gateOpen cfg 0x8000001C = true ↔ cfg.Fn8000_0001_ECX.LWP = 1 := beq_iff_eq

end

section
variable (cfg : Cfg) (env : Env) (sub : Word)

/-- Whatever subfunction ECX selects, the entry has a good shape. -/
theorem shapeOk_leaf0000_0007 : (leaf0000_0007 cfg env sub).ShapeOk := by
  unfold leaf0000_0007
  split_ifs <;> exact ⟨rfl, rfl, rfl, rfl⟩

/-- Whatever subfunction ECX selects, the entry has a good shape. -/
theorem shapeOk_leaf0000_000F : (leaf0000_000F cfg env sub).ShapeOk := by
  unfold leaf0000_000F
  split_ifs <;> exact ⟨rfl, rfl, rfl, rfl⟩

/-- Whatever subfunction ECX selects, the entry has a good shape. -/
theorem shapeOk_leaf0000_0010 : (leaf0000_0010 cfg env sub).ShapeOk := by
  unfold leaf0000_0010
  split_ifs <;> exact ⟨rfl, rfl, rfl, rfl⟩

theorem shapeOk_leaf8000_0008 : (leaf8000_0008 cfg env sub).ShapeOk := ⟨rfl, rfl, rfl, rfl⟩

theorem shapeOk_leaf8000_001C : (leaf8000_001C cfg env sub).ShapeOk := ⟨rfl, rfl, rfl, rfl⟩

/-- The fields of a level that only a Core level has are there or not (R332, R333). -/
theorem shapeOk_leaf8000_0026_level (l : Record.Level) : (leaf8000_0026_level cfg env sub l).ShapeOk := by
  unfold leaf8000_0026_level fn8000_0026_EAX_xn fn8000_0026_EBX_xn
  generalize (l.ECX.LevelType == 1) = core
  cases core <;> exact ⟨rfl, rfl, rfl, rfl⟩

/-- Whatever level ECX selects, the entry has a good shape. -/
theorem shapeOk_leaf8000_0026 : (leaf8000_0026 cfg env sub).ShapeOk := by
  unfold leaf8000_0026
  split
  next l _ => exact shapeOk_leaf8000_0026_level cfg env sub l
  next => exact ⟨rfl, rfl, rfl, rfl⟩

end

/-! ## Functions 1h and 7h -/

/-- Settles O15: the bits of ECX, then those of EDX, in the order of the entry's lists. -/
theorem function0000_0001Features : Obligations.Function0000_0001Features := by
  intro s hx hfn hr
  obtain ⟨t, ht, hshow⟩ := exec_standard_showsFields hx hfn (by decide) hr rfl (shapeOk_leaf0000_0001 ..) rfl
  refine ⟨t, ht, ?_⟩
  have hcd := And.intro hshow.ecx hshow.edx
  simpa only [leaf0000_0001, fn0000_0001_ECX, fn0000_0001_EDX, Register.shownBy_cons, Register.shownBy_nil, and_true,
    and_assoc] using hcd

/-- Settles O18: subfunction 0 is a whole register, subfunction 1 two bits. -/
theorem function0000_0007Subfunctions : Obligations.Function0000_0007Subfunctions := by
  intro s hx hfn hr
  obtain ⟨t, ht, hshow⟩ := exec_standard_showsFields hx hfn (by decide) hr rfl (shapeOk_leaf0000_0007 ..) rfl
  refine ⟨t, ht, fun hsub => ?largest, fun hsub hmax => ?features⟩
  case largest =>
    rw [hsub, leaf0000_0007_sub0] at hshow
    exact Register.shownBy_whole.mp hshow.eax
  case features =>
    rw [hsub, leaf0000_0007_sub1 hmax] at hshow
    simpa only [leaf0000_0007_x1, fn0000_0007_EAX_x1, Register.shownBy_cons, Register.shownBy_nil, and_true]
      using hshow.eax

/-! ## Function Bh -/

/-- An implemented level of function Bh is the thread level or the core level (R142). -/
theorem level_cases {cfg : Cfg} {sub : Word} (h : sub.toNat < cfg.FnB_Levels.val) :
    sub = 0 ∧ 1 ≤ cfg.FnB_Levels ∨ sub = 1 ∧ 2 ≤ cfg.FnB_Levels := by
  have hlevels := cfg.FnB_Levels.isLt
  obtain hsub | hsub : sub.toNat = 0 ∨ sub.toNat = 1 := by omega
  · exact .inl ⟨BitVec.eq_of_toNat_eq hsub, Fin.le_def.mpr (lt_of_eq_of_lt hsub.symm h)⟩
  · exact .inr ⟨BitVec.eq_of_toNat_eq hsub, Fin.le_def.mpr (lt_of_eq_of_lt hsub.symm h)⟩

/-- Settles O20: both levels have the one identifier, and each the mask width by which it is shifted. -/
theorem function0000_000BCore : Obligations.Function0000_000BCore := by
  intro s hx hfn hr hlevel
  obtain ⟨t, ht, hshow⟩ := exec_0000_000B_showsFields hx hfn hr
  rcases level_cases hlevel with ⟨hsub, hthread⟩ | ⟨hsub, hcore⟩
  · rw [hsub, leaf0000_000B_of_thread hthread] at hshow
    obtain ⟨ha, -, -, hd⟩ := hshow
    have hId : t.readReg .edx = s.cfg.x2APIC_ID := Register.shownBy_whole.mp hd
    obtain ⟨hWidth, -⟩ := Register.shownBy_cons.mp ha
    exact ⟨t, ht, hId, fun _ => by rw [hId, hWidth, coreId], fun h1 => absurd (hsub.symm.trans h1) (by decide)⟩
  · rw [hsub, leaf0000_000B_of_core hcore] at hshow
    obtain ⟨ha, hb, hc, hd⟩ := hshow
    have hId : t.readReg .edx = s.cfg.x2APIC_ID := Register.shownBy_whole.mp hd
    simp only [leaf0000_000B_x1, fn0000_000B_EAX_x1, fn0000_000B_EBX_x1, fn0000_000B_ECX_x1, Register.shownBy_cons,
      Register.shownBy_nil, and_true] at ha hb hc
    obtain ⟨hNumber, hEcho⟩ := hc
    exact ⟨t, ht, hId, fun h0 => absurd (hsub.symm.trans h0) (by decide),
      fun _ => ⟨ha, hb, hNumber, hsub ▸ hEcho, by rw [hId, ha, packageId]⟩⟩

/-! ## Function Dh -/

/-- At the full supported mask the size function of a record of this hardware gives the maximum (R153). -/
theorem sizeFunction_supportedMask {cfg : Cfg} (h : cfg.wellFormed = true) :
    cfg.XFeatureEnabledSizeMax.apply cfg.xFeatureSupportedMask =
      cfg.Fn0000_000D_ECX_x0.XFeatureSupportedSizeMax := by
  simp only [Cfg.wellFormed, Bool.and_eq_true] at h
  obtain ⟨⟨-, hsize⟩, -⟩ := h
  exact beq_iff_eq.mp hsize

/-- Settles O22: EBX of each of the two subfunctions is one field of 32 bits. -/
theorem function0000_000DSizes : Obligations.Function0000_000DSizes := by
  intro s hx hfn hr hwf
  obtain ⟨t, ht, hshow⟩ := exec_0000_000D_showsFields hx hfn hr
  refine ⟨t, ht, fun hsub => ?enabled, fun hsub => ?compact⟩
  case enabled =>
    rw [hsub, leaf0000_000D_sub0] at hshow
    have hSize : t.readReg .ebx = s.cfg.XFeatureEnabledSizeMax.apply s.env.XCR0 := Register.shownBy_whole.mp hshow.ebx
    exact ⟨hSize, fun hfull => by rw [hSize, hfull, sizeFunction_supportedMask hwf]⟩
  case compact =>
    rw [hsub, leaf0000_000D_sub1] at hshow
    exact Register.shownBy_whole.mp hshow.ebx

/-! ## Functions Fh and 10h -/

/-- A size field of 0 gives no width (R172). -/
theorem counterWidth_of_eq_zero {size : BitVec 8} (h : size = 0) : counterWidth size = none := if_pos h

/-- Settles O24: the fields of the two subfunctions, and the width and the scaling computed from the fields shown. -/
theorem function0000_000F : Obligations.Function0000_000F := by
  intro s hx hfn hr hgate
  obtain ⟨t, ht, hshow⟩ := exec_standard_showsFields hx hfn (by decide) hr (gateOpen_0000_000F_iff.mpr hgate)
    (shapeOk_leaf0000_000F ..) rfl
  refine ⟨t, ht, fun hsub => ?capabilities, fun hsub => ?monitoring⟩
  case capabilities =>
    rw [hsub, leaf0000_000F_sub0] at hshow
    obtain ⟨hMon, -⟩ := Register.shownBy_cons.mp hshow.edx
    exact ⟨Register.shownBy_whole.mp hshow.ebx, hMon⟩
  case monitoring =>
    rw [hsub, leaf0000_000F_sub1] at hshow
    obtain ⟨ha, hb, hc, hd⟩ := hshow
    have hScale : t.readReg .ebx = s.cfg.Fn0000_000F_EBX_x1.ScaleFactor := Register.shownBy_whole.mp hb
    have hMax : t.readReg .ecx = s.cfg.Fn0000_000F_ECX_x1.Max_RMID := Register.shownBy_whole.mp hc
    simp only [leaf0000_000F_x1, fn0000_000F_EAX_x1, fn0000_000F_EDX_x1, Register.shownBy_cons, Register.shownBy_nil,
      and_true] at ha hd
    obtain ⟨hOverflow, hSize⟩ := ha
    obtain ⟨hEvt1, hEvt0, hOcc⟩ := hd
    exact ⟨hOverflow, hSize, hScale, hMax, hEvt1, hEvt0, hOcc, hSize ▸ counterWidth_of_ne_zero,
      hSize ▸ counterWidth_of_eq_zero, fun _ => by rw [hScale, scaledCount, Nat.mul_comm]⟩

/-- Settles O25: the fields of the two subfunctions, and the length of the mask computed from the field shown. -/
theorem function0000_0010 : Obligations.Function0000_0010 := by
  intro s hx hfn hr hgate
  obtain ⟨t, ht, hshow⟩ := exec_standard_showsFields hx hfn (by decide) hr (gateOpen_0000_0010_iff.mpr hgate)
    (shapeOk_leaf0000_0010 ..) rfl
  refine ⟨t, ht, fun hsub => ?capabilities, fun hsub => ?allocation⟩
  case capabilities =>
    rw [hsub, leaf0000_0010_sub0] at hshow
    obtain ⟨hAlloc, -⟩ := Register.shownBy_cons.mp hshow.edx
    exact hAlloc
  case allocation =>
    rw [hsub, leaf0000_0010_sub1] at hshow
    obtain ⟨hLen, -⟩ := Register.shownBy_cons.mp hshow.eax
    obtain ⟨hCdp, -⟩ := Register.shownBy_cons.mp hshow.ecx
    obtain ⟨hCos, -⟩ := Register.shownBy_cons.mp hshow.edx
    exact ⟨hLen, Register.shownBy_whole.mp hshow.ebx, hCdp, hCos, by rw [hLen, capacityMaskLength]⟩

/-! ## Function 8000_0001h -/

/-- Settles O28: the bits of EDX, in the order of the entry's list. -/
theorem function8000_0001Edx : Obligations.Function8000_0001Edx := by
  intro s hx hfn hr
  obtain ⟨t, ht, hshow⟩ := exec_extended_showsFields hx hfn (by decide) hr rfl (shapeOk_leaf8000_0001 ..) rfl
  refine ⟨t, ht, ?_⟩
  simpa only [leaf8000_0001, fn8000_0001_EDX, Register.shownBy_cons, Register.shownBy_nil, and_true] using hshow.edx

/-! ## The bits that functions 1 and 8000_0001h share -/

/-- The fields of a register whose lowest bit lies under a mask. -/
def Register.under (mask : Word) (fs : Register) : Register := fs.filter fun f => mask.getLsbD f.lo

/-- A register that shows its fields shows those under a mask. -/
theorem Register.shownBy_under {fs : Register} {mask v : Word} (h : Register.shownBy fs v) :
    Register.shownBy (Register.under mask fs) v :=
  fun f hf => h f (List.mem_of_mem_filter hf)

/-- A bit that a field covers is the field's in every value that shows the field. -/
theorem getLsbD_of_shown {f : Field} {v : Word} {i : Nat} (h : bitsOf v f.hi f.lo = f.val) (hi : f.covers i = true) :
    v.getLsbD i = f.val.getLsbD (i - f.lo) := by
  obtain ⟨hlo, hwidth⟩ := of_decide_eq_true hi
  rw [← h, bitsOf, BitVec.getLsbD_extractLsb', decide_eq_true hwidth, Bool.true_and, Nat.add_sub_cancel' hlo]

/-- Two values that show the same fields agree on the bits those cover. -/
theorem agreeOn_of_shownBy {fs : Register} {v w : Word} (hv : Register.shownBy fs v) (hw : Register.shownBy fs w) :
    agreeOn (Register.definedMask fs) v w := by
  refine BitVec.eq_of_getLsbD_eq fun i hi => ?_
  rw [BitVec.getLsbD_and, BitVec.getLsbD_and, Register.getLsbD_definedMask fs i hi]
  cases hany : fs.any fun f => f.covers i with
  | false => simp
  | true =>
    obtain ⟨f, hf, hcovers⟩ := List.any_eq_true.mp hany
    rw [getLsbD_of_shown (hv f hf) hcovers, getLsbD_of_shown (hw f hf) hcovers]

section
variable {cfg : Cfg} {env : Env} {sub : Word}

/-- EDX of both functions has the same fields under 0183_F3FFh (R206). -/
theorem under_fn8000_0001_EDX :
    Register.under 0x0183F3FF (fn8000_0001_EDX cfg env sub) =
      Register.under 0x0183F3FF (fn0000_0001_EDX cfg env sub) := by
  simp [Register.under, fn8000_0001_EDX, fn0000_0001_EDX]

/-- Those fields cover just the bits of that mask. -/
theorem definedMask_under_EDX :
    Register.definedMask (Register.under 0x0183F3FF (fn0000_0001_EDX cfg env sub)) = 0x0183F3FF := by
  simp [Register.under, Register.definedMask, fn0000_0001_EDX, rangeMask]

/-- At BaseFamily Fh the fields of EAX cover just the bits of 0FFF_0FFFh (R203). -/
theorem definedMask_EAX (h : cfg.Fn0000_0001_EAX.BaseFamily = 0xF) :
    Register.definedMask (fn0000_0001_EAX cfg env sub) = 0x0FFF0FFF := by
  simp [fn0000_0001_EAX, h, Register.definedMask, Field.onlyIf, rangeMask]

/-- A value that shows the fields of EDX of function 8000_0001h shows the shared ones. -/
theorem shownBy_sharedEdx {v : Word} (h : Register.shownBy (fn8000_0001_EDX cfg env sub) v) :
    Register.shownBy (Register.under 0x0183F3FF (fn0000_0001_EDX cfg env sub)) v :=
  under_fn8000_0001_EDX ▸ Register.shownBy_under h

end

/-- A record of this hardware has BaseFamily Fh (R25). -/
theorem baseFamily_of_wellFormed {cfg : Cfg} (h : cfg.wellFormed = true) : cfg.Fn0000_0001_EAX.BaseFamily = 0xF := by
  simp only [Cfg.wellFormed, Cfg.identityOk, Bool.and_eq_true, and_assoc] at h
  obtain ⟨hfamily, -⟩ := h
  exact beq_iff_eq.mp hfamily

/-- Settles O29: both executions show the same fields of EAX, and the same fields of EDX under the mask. -/
theorem mirroredBitsAgree : Obligations.MirroredBitsAgree := by
  intro s s' hx hwf hcfg henv hfn hr hfn' hr'
  obtain ⟨t, ht, hshow⟩ := exec_standard_showsFields hx hfn (by decide) hr rfl (shapeOk_leaf0000_0001 s.cfg s.env 0) rfl
  obtain ⟨t', ht', hshow'⟩ := exec_extended_showsFields (mayExecute_of_env_eq henv hx) hfn' (by decide) (hcfg ▸ hr') rfl
    (shapeOk_leaf8000_0001 s'.cfg s'.env 0) rfl
  rw [hcfg, henv] at hshow'
  refine ⟨t, t', ht, ht', ?_, ?_⟩
  · rw [← definedMask_EAX (env := s.env) (sub := 0) (baseFamily_of_wellFormed hwf)]
    exact agreeOn_of_shownBy hshow.eax hshow'.eax
  · rw [← definedMask_under_EDX (cfg := s.cfg) (env := s.env) (sub := 0)]
    exact agreeOn_of_shownBy (Register.shownBy_under hshow.edx) (shownBy_sharedEdx hshow'.edx)

/-! ## Function 8000_0008h -/

/-- A guest physical address size of 0 stands for the physical one (R236). -/
theorem guestPhysAddrBits_of_shown {r : Record.Fn8000_0008_EAX} {guest phys : BitVec 8}
    (hGuest : guest = r.GuestPhysAddrSize) (hPhys : phys = r.PhysAddrSize) :
    guestPhysAddrBits r = if guest = 0 then phys.toNat else guest.toNat := by
  rw [hGuest, hPhys, guestPhysAddrBits]

/-- The counter sizes of the four values of the field (R238). -/
theorem perfTscBits_of_shown {r : Record.Fn8000_0008_ECX} {size : BitVec 2} (hSize : size = r.PerfTscSize) :
    perfTscBits r = if size = 0 then 40 else if size = 1 then 48 else if size = 2 then 56 else 64 := by
  have htable : ∀ size : BitVec 2,
      40 + 8 * size.toNat = if size = 0 then 40 else if size = 1 then 48 else if size = 2 then 56 else 64 := by decide
  rw [perfTscBits, ← hSize, htable]

/-- The threads of the package are NC + 1 (R340). -/
theorem logicalProcessors_of_shown {cfg : Cfg} {nc : BitVec 8} (hNc : nc = cfg.Fn8000_0008_ECX.NC) :
    logicalProcessors cfg = nc.toNat + 1 := by
  rw [hNc, logicalProcessors]

/-- MNLP is computed from ApicIdSize, or from NC when that is 0 (R342). -/
theorem mnlp_of_shown {cfg : Cfg} {size : BitVec 4} {nc : BitVec 8} (hSize : size = cfg.Fn8000_0008_ECX.ApicIdSize)
    (hNc : nc = cfg.Fn8000_0008_ECX.NC) : mnlp cfg = if size = 0 then nc.toNat + 1 else 2 ^ size.toNat := by
  rw [hSize, hNc, mnlp]

/-- Settles O34: the fields of the four registers, and the sizes and counts computed from the fields shown. -/
theorem function8000_0008 : Obligations.Function8000_0008 := by
  intro s hx hfn hr
  obtain ⟨t, ht, ha, hb, hc, hd⟩ :=
    exec_extended_showsFields hx hfn (by decide) hr rfl (shapeOk_leaf8000_0008 ..) rfl
  refine ⟨t, ht, ?_⟩
  simp only [leaf8000_0008, fn8000_0008_EAX, fn8000_0008_EBX, fn8000_0008_ECX, fn8000_0008_EDX, Register.shownBy_cons,
    Register.shownBy_nil, and_true] at ha hb hc hd
  have ⟨hGuest, _, hPhys⟩ := ha
  have ⟨hTsc, hApic, hNc⟩ := hc
  have hcomputed := And.intro (guestPhysAddrBits_of_shown hGuest hPhys) (And.intro (perfTscBits_of_shown hTsc)
    (And.intro (logicalProcessors_of_shown hNc) (mnlp_of_shown hApic hNc)))
  simpa only [and_assoc] using And.intro ha (And.intro hb (And.intro hc (And.intro hd hcomputed)))

/-! ## Function 8000_001Ch -/

/-- Settles O37: LWP opens the gate; the sizes are computed from the fields shown. -/
theorem function8000_001C : Obligations.Function8000_001C := by
  intro s hx hfn hr hlwp
  obtain ⟨t, ht, ha, hb, hc, hd⟩ :=
    exec_extended_showsFields hx hfn (by decide) hr (gateOpen_8000_001C_iff.mpr hlwp) (shapeOk_leaf8000_001C ..) rfl
  refine ⟨t, ht, ?_⟩
  simp only [leaf8000_001C, fn8000_001C_EAX, fn8000_001C_EBX, fn8000_001C_ECX, fn8000_001C_EDX, Register.shownBy_cons,
    Register.shownBy_nil, and_true] at ha hb hc hd
  have ⟨_, _, hEventSize, hCbSize⟩ := hb
  have ⟨_, _, _, _, hMinBuffer, _⟩ := hc
  have hCbBytes : lwpcbBytes s.cfg.Fn8000_001C_EBX = 8 * (bitsOf (t.readReg .ebx) 7 0).toNat := by
    rw [hCbSize, lwpcbBytes]
  have hRecords : lwpMinRecords s.cfg.Fn8000_001C_ECX = (bitsOf (t.readReg .ecx) 23 16).toNat * 32 := by
    rw [hMinBuffer, lwpMinRecords, Nat.mul_comm]
  have hBytes : lwpMinBytes s.cfg =
      (bitsOf (t.readReg .ecx) 23 16).toNat * 32 * (bitsOf (t.readReg .ebx) 15 8).toNat := by
    rw [lwpMinBytes, hRecords, hEventSize]
  have hcomputed := And.intro hCbBytes (And.intro hRecords hBytes)
  simpa only [and_assoc] using And.intro ha (And.intro hb (And.intro hc (And.intro hd hcomputed)))

/-! ## Function 8000_0026h -/

/-- CPUID at function 8000_0026h in range shows the fields of the level that ECX selects, or of the end. -/
theorem exec_8000_0026_showsFields {s : State} (hx : s.mayExecute) (hfn : s.readReg .eax = 0x80000026)
    (hr : 0x80000026 ≤ s.cfg.LFuncExt) :
    ∃ t, exec .cpuid s = .next t ∧ t.ShowsFields (leaf8000_0026 s.cfg s.env (s.readReg .ecx)) :=
  exec_extended_showsFields hx hfn (by decide) hr rfl (shapeOk_leaf8000_0026 ..) rfl

/-- The mask of the bits below a level is 2^MaskWidth - 1 (R332). -/
theorem apicIdMaskBelow_toNat (l : Record.Level) : (apicIdMaskBelow l).toNat = 2 ^ l.EAX.MaskWidth.toNat - 1 := by
  have hlt : 2 ^ l.EAX.MaskWidth.toNat < 2 ^ 32 := Nat.pow_lt_pow_right (by decide) l.EAX.MaskWidth.isLt
  have hpos : 1 ≤ 2 ^ l.EAX.MaskWidth.toNat := Nat.one_le_two_pow
  have hshift : ((1 <<< l.EAX.MaskWidth.toNat : Nat) : Word).toNat = 2 ^ l.EAX.MaskWidth.toNat := by
    rw [Nat.one_shiftLeft, BitVec.natCast_eq_ofNat, BitVec.toNat_ofNat, Nat.mod_eq_of_lt hlt]
  rw [apicIdMaskBelow, BitVec.toNat_sub_of_le (by rw [BitVec.le_def, hshift]; exact hpos), hshift]
  rfl

/-- The two masks of a level share the 32 bits (R332). -/
theorem apicIdMasks_complement (l : Record.Level) :
    (apicIdMaskAbove l).toNat + (apicIdMaskBelow l).toNat = 0xFFFFFFFF := by
  rw [apicIdMaskAbove]
  bv_omega

/-- Settles O45: the fields of the selected level, some of them only of a Core level; what EAX[31:29] being zero tells;
and the identifier and the masks that MaskWidth gives. -/
theorem function8000_0026Level : Obligations.Function8000_0026Level := by
  intro s l hx hfn hr hl
  obtain ⟨t, ht, hshow⟩ := exec_8000_0026_showsFields hx hfn hr
  rw [leaf8000_0026_of_level hl] at hshow
  obtain ⟨ha, hb, hc, -⟩ := hshow
  simp only [leaf8000_0026_level, fn8000_0026_EAX_xn, fn8000_0026_EBX_xn, fn8000_0026_ECX_xn, Register.shownBy_append,
    Register.shownBy_onlyIf, Register.shownBy_cons, Register.shownBy_nil, beq_iff_eq, and_true] at ha hb hc
  obtain ⟨⟨⟨hAsym, hHet⟩, hRank⟩, hWidth⟩ := ha
  obtain ⟨⟨⟨hType, hModel⟩, hPwr⟩, hNum⟩ := hb
  obtain ⟨hLevelType, hEcho⟩ := hc
  refine ⟨t, ht, hAsym, hHet, hRank, hWidth, hType, hModel, hPwr, hNum, hLevelType, hEcho, by rw [hWidth, topologyId],
    fun huniform => ?uniform, fun hcore => ?uniformCore, by rw [hWidth, apicIdMaskBelow_toNat],
    apicIdMasks_complement l⟩
  case uniform =>
    obtain ⟨h31, h30, -⟩ := (levelUniform_iff _).mp huniform
    exact ⟨hAsym ▸ h31, hHet ▸ h30⟩
  case uniformCore => rw [levelUniform_iff, hAsym, hHet, hRank hcore]

/-- Settles O46: EDX of every level is the one identifier; past the last level ECX alone is promised. -/
theorem function8000_0026Identifier : Obligations.Function8000_0026Identifier := by
  intro s hx hfn hr
  obtain ⟨t, ht, hshow⟩ := exec_8000_0026_showsFields hx hfn hr
  refine ⟨t, ht, fun hlevel => ?level, fun hend => ?past⟩
  case level =>
    rw [leaf8000_0026_of_level (List.getElem?_eq_getElem hlevel)] at hshow
    exact Register.shownBy_whole.mp hshow.edx
  case past =>
    rw [leaf8000_0026_of_noLevel hend] at hshow
    simpa only [leaf8000_0026_end, Register.shownBy_cons, Register.shownBy_nil, and_true] using hshow.ecx

/-! ## The entries of the L2 TLBs -/

/-- The entries of an L2 TLB, from the size field shown (R313). -/
theorem l2TlbEntries_of_shown {cfg : Cfg} {size shown : BitVec 12} (h : shown = size) (affected : Bool) :
    l2TlbEntries cfg affected size =
      if affected = true ∧ cfg.Fn8000_0021_EAX.L2TlbSizeX32 = 1 then 32 * shown.toNat else shown.toNat := by
  simp only [l2TlbEntries, h, Bool.and_eq_true, beq_iff_eq]

/-- Settles O60: each size field shown counts entries by R313, and for 4-MB pages half of them. -/
theorem l2TlbEntryCounts : Obligations.L2TlbEntryCounts := by
  intro s hx
  refine ⟨fun hfn hr => ?smallPages, fun hfn hr => ?page1GB⟩
  case smallPages =>
    obtain ⟨t, ht, ha, hb, -⟩ :=
      exec_extended_showsFields hx hfn (by decide) hr rfl (shapeOk_leaf8000_0006 ..) rfl
    simp only [leaf8000_0006, fn8000_0006_EAX, fn8000_0006_EBX, Register.shownBy_cons, Register.shownBy_nil,
      and_true] at ha hb
    obtain ⟨-, hDSize, -, hISize⟩ := ha
    obtain ⟨-, hD4KSize, -, hI4KSize⟩ := hb
    exact ⟨t, ht, l2TlbEntries_of_shown hDSize, fun hscale => hDSize ▸ l2EntriesFor4M_scaled _ hscale,
      fun _ _ hu hn => l2EntriesFor4M_unscaled hu (hDSize ▸ hn), l2TlbEntries_of_shown hISize,
      fun hscale => hISize ▸ l2EntriesFor4M_scaled _ hscale,
      fun _ _ hu hn => l2EntriesFor4M_unscaled hu (hISize ▸ hn), l2TlbEntries_of_shown hD4KSize,
      l2TlbEntries_of_shown hI4KSize⟩
  case page1GB =>
    obtain ⟨t, ht, -, hb, -⟩ :=
      exec_extended_showsFields hx hfn (by decide) hr rfl (shapeOk_leaf8000_0019 ..) rfl
    simp only [leaf8000_0019, fn8000_0019_EBX, Register.shownBy_cons, Register.shownBy_nil, and_true] at hb
    obtain ⟨-, hDSize, -, hISize⟩ := hb
    exact ⟨t, ht, l2TlbEntries_of_shown hDSize, l2TlbEntries_of_shown hISize⟩

end Sys2Proof.Machine

/-! What software computes with CPUID: the enumeration loops (42_std_fnB_to_fn10.md R148, 45_ext_fn1D_to_fn26.md R280,
R336), the logical processors of a package (46_multiprocessor_calculation.md R340 to R343), and the 32-bit store and
load (20_memory.md R42).

An execution keeps the record and `env`, so every turn of a loop meets the same entries with other draws; the loops are
counted once, for any function and any end (`enumerateFrom_counts`). -/

namespace Sys2Proof.Machine

/-! ## The enumeration loops -/

section
variable {s : State}

/-- The state in which software has loaded EAX and ECX. -/
def State.loaded (s : State) (fn sub : Word) : State := (s.writeReg .eax fn).writeReg .ecx sub

/-- CPUID after the loads returns Leaf at the loaded inputs. -/
theorem cpuidResult_loaded (s : State) (fn sub : Word) :
    (s.loaded fn sub).cpuidResult = leaf s.cfg s.env s.draws4 fn sub := by
  simp [State.cpuidResult, State.loaded, readReg_writeReg]

/-- One turn of a loop completes, returns Leaf at the loaded inputs, and keeps the record and `env`. -/
theorem cpuidWith_next (hx : s.mayExecute) (fn sub : Word) :
    ∃ t, s.cpuidWith fn sub = .next t ∧ t.results = leaf s.cfg s.env s.draws4 fn sub ∧ t.cfg = s.cfg ∧
      t.env = s.env :=
  ⟨(s.loaded fn sub).afterCpuid, exec_of_mayExecute (mayExecute_of_env_eq rfl hx),
    (results_afterCpuid _).trans (cpuidResult_loaded s fn sub), rfl, rfl⟩

/-- One turn of a loop: what it returns decides whether the loop stops, and the rest of the loop meets the same record
and `env`. -/
theorem enumerateFrom_turn (hx : s.mayExecute) (fn : Word) (stop : Regs4 → Bool) (n fuel : Nat) :
    ∃ t, t.results = leaf s.cfg s.env s.draws4 fn (BitVec.ofNat 32 n) ∧ t.cfg = s.cfg ∧ t.env = s.env ∧
      enumerateFrom fn stop n (fuel + 1) s =
        if stop t.results then some [] else (enumerateFrom fn stop (n + 1) fuel t).map (t.results :: ·) := by
  obtain ⟨t, ht, hresult, hcfg, henv⟩ := cpuidWith_next hx fn (BitVec.ofNat 32 n)
  exact ⟨t, hresult, hcfg, henv, by rw [enumerateFrom, ht]⟩

end

/-- A loop whose end is met at number `last` stops there at the latest, and just there when it is met at none before. -/
theorem enumerateFrom_counts {cfg : Cfg} {env : Env} {fn : Word} {stop : Regs4 → Bool} {last : Nat}
    (hstop : ∀ d, stop (leaf cfg env d fn (BitVec.ofNat 32 last)) = true) {m n : Nat} {s : State} (hlast : n + m = last)
    (hx : s.mayExecute) (hcfg : s.cfg = cfg) (henv : s.env = env) :
    ∃ l, enumerateFrom fn stop n (m + 1) s = some l ∧ l.length ≤ m ∧
      ((∀ k < last, ∀ d, stop (leaf cfg env d fn (BitVec.ofNat 32 k)) = false) → l.length = m) := by
  induction m generalizing n s with
  | zero =>
    obtain ⟨t, hresult, -, -, hturn⟩ := enumerateFrom_turn hx fn stop n 0
    rw [hcfg, henv] at hresult
    obtain rfl : n = last := hlast
    exact ⟨[], hturn.trans (if_pos (hresult ▸ hstop _)), Nat.le_refl 0, fun _ => rfl⟩
  | succ m ih =>
    obtain ⟨t, hresult, htcfg, htenv, hturn⟩ := enumerateFrom_turn hx fn stop n (m + 1)
    rw [hcfg, henv] at hresult
    cases hend : stop t.results with
    | true =>
      refine ⟨[], hturn.trans (if_pos hend), Nat.zero_le _, fun hgo => ?_⟩
      rw [hresult, hgo n (by omega)] at hend
      cases hend
    | false =>
      obtain ⟨l, hl, hle, heq⟩ := ih (n := n + 1) (s := t) (by omega) (mayExecute_of_env_eq htenv hx)
        (htcfg.trans hcfg) (htenv.trans henv)
      refine ⟨t.results :: l, ?_, Nat.succ_le_succ hle, fun hgo => congrArg Nat.succ (heq hgo)⟩
      rw [hturn, hend, hl]
      rfl

/-- A level or cache number that fits ECX is the number ECX holds. -/
theorem toNat_ecx {k : Nat} (h : k < 2 ^ 32) : (BitVec.ofNat 32 k).toNat = k :=
  (BitVec.toNat_ofNat ..).trans (Nat.mod_eq_of_lt h)

/-- What a loop over a whole list finds: it stops at the list's end, and not before. -/
theorem enumerateFrom_finds {s : State} {fn : Word} {stop : Regs4 → Bool} {entry : Word → Entry} {count : Nat}
    (hx : s.mayExecute) (hcount : count < 2 ^ 32)
    (hleaf : ∀ sub d, leaf s.cfg s.env d fn sub = (entry sub).fill d)
    (hstop : ∀ sub d, stop ((entry sub).fill d) = decide (count ≤ sub.toNat)) :
    ∃ l, enumerateFrom fn stop 0 (count + 1) s = some l ∧ l.length = count := by
  have hend : ∀ k ≤ count, ∀ d, stop (leaf s.cfg s.env d fn (BitVec.ofNat 32 k)) = decide (count ≤ k) := by
    intro k hk d
    rw [hleaf, hstop, toNat_ecx (Nat.lt_of_le_of_lt hk hcount)]
  obtain ⟨l, hl, -, hlen⟩ := enumerateFrom_counts (fun d => (hend count (Nat.le_refl _) d).trans (by simp))
    (Nat.zero_add count) hx rfl rfl
  exact ⟨l, hl, hlen fun k hk d => (hend k (Nat.le_of_lt hk) d).trans (by simpa using hk)⟩

section
variable {cfg : Cfg} {env : Env} {sub : Word} {d : Regs4}

/-! ### Caches -/

/-- Leaf at function 8000_001Dh in range, its gate open. -/
theorem leaf_8000_001D (hr : 0x8000001D ≤ cfg.LFuncExt) (htopo : cfg.Fn8000_0001_ECX.TopologyExtensions = 1) :
    leaf cfg env d 0x8000001D sub = (leaf8000_001D cfg env sub).fill d := by
  rw [leaf, leafEntry_extended (by decide) hr (gateOpen_8000_001D_iff.mpr htopo)]
  rfl

/-- No enumerated cache of this hardware has the Null type (R281). -/
theorem cacheType_ne_zero (hwf : cfg.wellFormed = true) {c : Record.Cache} (hc : c ∈ cfg.Fn8000_001D_x) :
    c.EAX.CacheType ≠ 0 := by
  simp only [Cfg.wellFormed, Bool.and_eq_true, and_assoc] at hwf
  obtain ⟨-, -, -, hcaches, -⟩ := hwf
  simpa using List.all_eq_true.mp hcaches c hc

/-- The end of the caches is met just past the last one (R287). -/
theorem noMoreCaches_leaf8000_001D (hwf : cfg.wellFormed = true) :
    noMoreCaches ((leaf8000_001D cfg env sub).fill d) = decide (cfg.NumCaches ≤ sub.toNat) := by
  have hshow := Register.shownBy_fill d.eax (shapeOk_leaf8000_001D cfg env sub).eax
  by_cases hend : cfg.NumCaches ≤ sub.toNat
  · rw [leaf8000_001D_of_noCache hend] at hshow ⊢
    obtain ⟨hType, -⟩ := Register.shownBy_cons.mp hshow
    exact (beq_iff_eq.mpr hType).trans (decide_eq_true hend).symm
  · have hsub := Nat.lt_of_not_le hend
    rw [leaf8000_001D_of_cache (List.getElem?_eq_getElem hsub)] at hshow ⊢
    simp only [leaf8000_001D_cache, fn8000_001D_EAX_xn, Register.shownBy_cons, Register.shownBy_nil, and_true] at hshow
    obtain ⟨-, -, -, -, hType⟩ := hshow
    have hne := cacheType_ne_zero hwf (List.getElem_mem hsub)
    exact (beq_false_of_ne (hType.trans_ne hne)).trans (decide_eq_false hend).symm

/-! ### Levels of function 8000_0026h -/

/-- Leaf at function 8000_0026h in range. -/
theorem leaf_8000_0026 (hr : 0x80000026 ≤ cfg.LFuncExt) :
    leaf cfg env d 0x80000026 sub = (leaf8000_0026 cfg env sub).fill d := by
  rw [leaf, leafEntry_extended (by decide) hr rfl]
  rfl

/-- No enumerated level of this hardware has LevelType 0 (R331). -/
theorem levelType_ne_zero (hwf : cfg.wellFormed = true) {l : Record.Level} (hl : l ∈ cfg.Fn8000_0026_x) :
    l.ECX.LevelType ≠ 0 := by
  simp only [Cfg.wellFormed, Bool.and_eq_true, and_assoc] at hwf
  obtain ⟨-, -, -, -, hlevels, -⟩ := hwf
  simpa using List.all_eq_true.mp hlevels l hl

/-- The end of the levels is met just past the last one (R337). -/
theorem noMoreLevels_leaf8000_0026 (hwf : cfg.wellFormed = true) :
    noMoreLevels ((leaf8000_0026 cfg env sub).fill d) = decide (cfg.NumTopoLevels ≤ sub.toNat) := by
  have hshow := Register.shownBy_fill d.ecx (shapeOk_leaf8000_0026 cfg env sub).ecx
  by_cases hend : cfg.NumTopoLevels ≤ sub.toNat
  · rw [leaf8000_0026_of_noLevel hend] at hshow ⊢
    obtain ⟨hType, -⟩ := Register.shownBy_cons.mp hshow
    exact (beq_iff_eq.mpr hType).trans (decide_eq_true hend).symm
  · have hsub := Nat.lt_of_not_le hend
    rw [leaf8000_0026_of_level (List.getElem?_eq_getElem hsub)] at hshow ⊢
    obtain ⟨hType, -⟩ := Register.shownBy_cons.mp hshow
    have hne := levelType_ne_zero hwf (List.getElem_mem hsub)
    exact (beq_false_of_ne (hType.trans_ne hne)).trans (decide_eq_false hend).symm

/-! ### Levels of function Bh -/

/-- Leaf at function Bh in range. -/
theorem leaf_0000_000B (hr : 0x0000000B ≤ cfg.LFuncStd) :
    leaf cfg env d 0x0000000B sub = (leaf0000_000B cfg env sub).fill d := by
  rw [leaf, leafEntry_standard (by decide) hr rfl]
  rfl

/-- An unimplemented level of function Bh meets the end (R148). -/
theorem noMoreLevelsOfFnB_of_unimplemented (h : cfg.FnB_Levels.val ≤ sub.toNat) :
    noMoreLevelsOfFnB ((leaf0000_000B cfg env sub).fill d) = true := by
  rw [leaf0000_000B_of_unimplemented h]
  exact beq_iff_eq.mpr (Register.fill_zeroRegister d.eax)

end

/-- Settles O56: the loop over the caches meets its end just past the last one. -/
theorem cacheEnumerationFindsAllCaches : Obligations.CacheEnumerationFindsAllCaches :=
  fun _ hx hwf htopo hr hcount =>
    enumerateFrom_finds hx hcount (fun _ _ => leaf_8000_001D hr htopo) fun _ _ => noMoreCaches_leaf8000_001D hwf

/-- Settles O57: the loop over the levels of 8000_0026h meets its end just past the last one; that of Bh, whose
implemented levels may have 0 in EAX too, at the first unimplemented level at the latest. -/
theorem levelEnumerationsStop : Obligations.LevelEnumerationsStop := by
  intro s hx hwf
  refine ⟨fun hr hcount => ?extended, fun hr => ?standard⟩
  case extended =>
    exact enumerateFrom_finds hx hcount (fun _ _ => leaf_8000_0026 hr) fun _ _ => noMoreLevels_leaf8000_0026 hwf
  case standard =>
    have hfits : s.cfg.FnB_Levels.val < 2 ^ 32 := Nat.lt_trans s.cfg.FnB_Levels.isLt (by decide)
    have hstop : ∀ d,
        noMoreLevelsOfFnB (leaf s.cfg s.env d 0x0000000B (BitVec.ofNat 32 s.cfg.FnB_Levels.val)) = true := fun d => by
      rw [leaf_0000_000B hr]
      exact noMoreLevelsOfFnB_of_unimplemented (toNat_ecx hfits).ge
    obtain ⟨l, hl, hle, -⟩ := enumerateFrom_counts hstop (Nat.zero_add _) hx rfl rfl
    exact ⟨l, hl, hle⟩

/-! ## Logical processors of a package -/

section
variable {cfg : Cfg}

/-- Table E-5 holds in a record of this hardware (R343). -/
theorem tableE5Ok_of_wellFormed (h : cfg.wellFormed = true) : cfg.tableE5Ok = true := by
  simp only [Cfg.wellFormed, Bool.and_eq_true, and_assoc] at h
  obtain ⟨-, htable, -⟩ := h
  exact htable

/-- The package of a record of this hardware holds at most MNLP logical processors (R342). -/
theorem mnlpOk_of_wellFormed (h : cfg.wellFormed = true) : cfg.mnlpOk = true := by
  simp only [Cfg.wellFormed, Bool.and_eq_true, and_assoc] at h
  obtain ⟨-, -, -, -, -, hmnlp, -⟩ := h
  exact hmnlp

/-- By Table E-5 the legacy method counts NC + 1, of which 8 bits have room for all but 256 (R341, R343, D29). -/
theorem legacyLogicalProcessors_of_tableE5Ok (h : cfg.tableE5Ok = true) (hNc : cfg.Fn8000_0008_ECX.NC ≠ 0xFF) :
    legacyLogicalProcessors cfg = some (logicalProcessors cfg) := by
  by_cases hzero : cfg.Fn8000_0008_ECX.NC = 0
  · simp only [Cfg.tableE5Ok, if_pos hzero, Bool.and_eq_true, beq_iff_eq] at h
    obtain ⟨hCmp, hHtt⟩ := h
    rw [legacyLogicalProcessors, if_pos ⟨hHtt, hCmp⟩, logicalProcessors, hzero]
    rfl
  · simp only [Cfg.tableE5Ok, if_neg hzero, Bool.and_eq_true, Bool.or_eq_true, beq_iff_eq, hNc, false_or] at h
    obtain ⟨⟨hCmp, hHtt⟩, hCount⟩ := h
    have hsum : (cfg.Fn8000_0008_ECX.NC + 1).toNat = cfg.Fn8000_0008_ECX.NC.toNat + 1 := by bv_omega
    rw [legacyLogicalProcessors, if_neg (fun ⟨h0, _⟩ => absurd (hHtt.symm.trans h0) (by decide)),
      if_pos ⟨hHtt, hCmp⟩, hCount, hsum, logicalProcessors]

/-- The logical processors of a package are at most MNLP (R342). -/
theorem le_mnlp_of_mnlpOk (h : cfg.mnlpOk = true) : cfg.Fn8000_0008_ECX.NC.toNat + 1 ≤ mnlp cfg := by
  rw [mnlp]
  split
  next => exact Nat.le_refl _
  next hsize =>
    simp only [Cfg.mnlpOk, Bool.or_eq_true, beq_iff_eq, hsize, false_or, decide_eq_true_eq] at h
    exact h

end

/-- Settles O59: the two methods, each from its own constraint on the record. -/
theorem packageCounts : Obligations.PackageCounts := fun _ hwf =>
  ⟨legacyLogicalProcessors_of_tableE5Ok (tableE5Ok_of_wellFormed hwf), rfl,
    le_mnlp_of_mnlpOk (mnlpOk_of_wellFormed hwf)⟩

/-! ## The 32-bit store and load -/

/-- Addresses less than 2^64 apart are distinct (R41). -/
theorem add_ofNat_ne {a : Quadword} {j k : Nat} (hj : j < 2 ^ 64) (hk : k < 2 ^ 64) (h : j ≠ k) :
    (a + BitVec.ofNat 64 j).toNat ≠ (a + BitVec.ofNat 64 k).toNat := by
  simp only [BitVec.toNat_add, BitVec.toNat_ofNat]
  omega

/-- The address after the first of a run of bytes begins the rest of the run. -/
theorem add_one_add_ofNat (a : Quadword) (k : Nat) : a + 1 + BitVec.ofNat 64 k = a + BitVec.ofNat 64 (k + 1) := by
  rw [BitVec.add_assoc, Nat.add_comm k 1, BitVec.ofNat_add]
  rfl

/-- A byte at none of the addresses written reads as before. -/
theorem Memory.read_writeBytes_other {x : Nat} {bs : List Byte} {m : Memory} {a : Quadword}
    (h : ∀ k < bs.length, x ≠ (a + BitVec.ofNat 64 k).toNat) : (Memory.writeBytes m a bs).read x = m.read x := by
  induction bs generalizing m a with
  | nil => rfl
  | cons b bs ih =>
    have hfirst : x ≠ a.toNat := by simpa using h 0 (by simp)
    rw [Memory.writeBytes, ih, Memory.read_write_other _ _ hfirst]
    intro k hk
    rw [add_one_add_ofNat]
    exact h (k + 1) (Nat.succ_lt_succ hk)

/-- The bytes written stand at consecutive addresses modulo 2^64, the first at the lowest. -/
theorem Memory.read_writeBytes {bs : List Byte} (hlen : bs.length ≤ 2 ^ 64) {m : Memory} {a : Quadword} {k : Nat}
    (hk : k < bs.length) : (Memory.writeBytes m a bs).read (a + BitVec.ofNat 64 k).toNat = some bs[k] := by
  induction bs generalizing m a k with
  | nil => cases hk
  | cons b bs ih =>
    simp only [List.length_cons] at hlen hk
    rw [Memory.writeBytes]
    cases k with
    | zero =>
      rw [Memory.read_writeBytes_other]
      · simp
      · intro j hj
        rw [add_one_add_ofNat]
        exact add_ofNat_ne (by decide) (by omega) (by omega)
    | succ k =>
      rw [← add_one_add_ofNat]
      exact ih (by omega) (Nat.lt_of_succ_lt_succ hk)

/-- A run of bytes that all read is what `readBytes` gives. -/
theorem Memory.readBytes_of_read {bs : List Byte} {m : Memory} {a : Quadword}
    (h : ∀ (k : Nat) (hk : k < bs.length), m.read (a + BitVec.ofNat 64 k).toNat = some bs[k]) :
    m.readBytes a bs.length = .ok bs := by
  induction bs generalizing a with
  | nil => rfl
  | cons b bs ih =>
    have hfirst : m.read a.toNat = some b := BitVec.add_zero a ▸ h 0 (Nat.succ_pos _)
    have hrest : m.readBytes (a + 1) bs.length = .ok bs := ih fun k hk => by
      rw [add_one_add_ofNat]
      exact h (k + 1) (Nat.succ_lt_succ hk)
    rw [List.length_cons, Memory.readBytes, hfirst, hrest]

/-- The bytes of a word, by number (R42). -/
theorem wordBytes_getElem (v : Word) : ∀ (k : Nat) (hk : k < (wordBytes v).length),
    (wordBytes v)[k] = v.extractLsb' (8 * k) 8
  | 0, _ => rfl
  | 1, _ => rfl
  | 2, _ => rfl
  | 3, _ => rfl

/-- The bytes of a word, the highest first, are the word. -/
theorem append_wordBytes (v : Word) :
    v.extractLsb' 24 8 ++ v.extractLsb' 16 8 ++ v.extractLsb' 8 8 ++ v.extractLsb' 0 8 = v := by
  rw [BitVec.extractLsb'_append_extractLsb'_eq_extractLsb' (show 24 = 16 + 8 from rfl),
    BitVec.extractLsb'_append_extractLsb'_eq_extractLsb' (show 16 = 8 + 8 from rfl),
    BitVec.extractLsb'_append_extractLsb'_eq_extractLsb' (show 8 = 0 + 8 from rfl)]
  exact BitVec.extractLsb'_eq_self

/-- The bytes of a stored word stand at consecutive addresses, bits 7:0 at the lowest (D20). -/
theorem Memory.read_write32 (m : Memory) (a : Quadword) (v : Word) {k : Nat} (hk : k < (wordBytes v).length) :
    (Memory.write32 m a v).read (a + BitVec.ofNat 64 k).toNat = some (wordBytes v)[k] :=
  Memory.read_writeBytes (bs := wordBytes v) (show 4 ≤ 2 ^ 64 by decide) hk

/-- A stored word reads back. -/
theorem Memory.read32_write32 (m : Memory) (a : Quadword) (v : Word) : (Memory.write32 m a v).read32 a = .ok v := by
  have hbytes : (Memory.write32 m a v).readBytes a 4 = .ok (wordBytes v) :=
    Memory.readBytes_of_read fun _ hk => Memory.read_write32 m a v hk
  rw [Memory.read32, hbytes]
  exact congrArg Except.ok (append_wordBytes v)

/-- Settles O58: a word is four bytes written in order. -/
theorem memoryStoresWords : Obligations.MemoryStoresWords := by
  intro m a v
  refine ⟨Memory.read32_write32 m a v, fun k hk => ?written, fun x hx => ?other⟩
  case written => exact (Memory.read_write32 m a v hk).trans (congrArg some (wordBytes_getElem v k hk))
  case other => exact Memory.read_writeBytes_other hx

end Sys2Proof.Machine
